-- ==== Sys2Proof/Word.lean ====
section
/-! DEFINITION. The word types of the core: bytes and the 32-bit registers of spec 00_scope.md R12. -/

namespace Sys2Proof

/-- One byte of `IBUF`, `S` or `OUT` (20_memory.md R60). -/
abbrev Byte := BitVec 8

/-- A `u32` register (10_state.md R38, 00_scope.md R12). -/
abbrev Word := BitVec 32

end Sys2Proof
end

