-- ==== Sys2Proof/Config.lean ====
section
/-! DEFINITION. What one instance of the core fixes: the alphabet sizes and limits (00_scope.md R4, R5, R6, R8), the
parameters an instance may choose (R6 to R8), and the values the spec leaves open, each an opaque constant. -/

namespace Sys2Proof

namespace Config

/-- `L_CODES` (R4). -/
abbrev lCodes : Nat := 286
/-- `D_CODES` (R4). -/
abbrev dCodes : Nat := 30
/-- `BL_CODES` (R4). -/
abbrev blCodes : Nat := 19
/-- The end-of-block symbol `EOB` (R4). -/
abbrev eob : Nat := 256
/-- `MAX_BITS`, the cap of the literal/length and distance codes (R5). -/
abbrev maxBits : Nat := 15
/-- `MAX_BL_BITS`, the cap of the code-length code (R5). -/
abbrev maxBlBits : Nat := 7
/-- `MIN_MATCH` (R6). -/
abbrev minMatch : Nat := 3
/-- `STORED_MAX`, the longest stored block (R8). -/
abbrev storedMax : Nat := 65535
/-- `TOTAL_IN` stays below this bound (93_implementation_defined.md U11). -/
abbrev maxTotalIn : Nat := 2 ^ 61
/-- `BITPOS` stays below this bound (93_implementation_defined.md U11). -/
abbrev maxBitpos : Nat := 2 ^ 64

/-- `CK_INIT`: an open parameter (00_scope.md R9, 93_implementation_defined.md U7). Log 7. -/
opaque ckInit : Word
/-- `CK_FOLD`: an open parameter (00_scope.md R9, 93_implementation_defined.md U7). Log 7. -/
opaque ckFold : Word → Byte → Word

/-! The `k`-th draw of the state left unspecified by an internal fault (93_implementation_defined.md U3). Log 9. -/

/-- The 32-bit registers left unspecified by draw `k`, numbered: 0 `IN_OFF`, 1 `IN_LEN`, 2 `CKSUM`. Log 9. -/
opaque freeWord : Nat → Nat → Word
/-- The stream positions left unspecified by draw `k`, numbered: 0 `P`, 1 `BLK_START`. Log 9. -/
opaque freePos : Nat → Nat → BitVec 64
/-- Entry `i` of frequency table `t` (0 `LFREQ`, 1 `DFREQ`, 2 `BLFREQ`) after draw `k`. Log 9. -/
opaque freeCount : Nat → Nat → Nat → Word
/-- Byte `i` of the window after draw `k`. Log 9. -/
opaque freeWindow : Nat → Nat → Byte
/-- How many queue entries draw `k` leaves. Log 9. -/
opaque freeQueueLength : Nat → Nat
/-- Entry `i` of the queue after draw `k`: its `a` and its `d`. Log 9. -/
opaque freeQueueEntry : Nat → Nat → BitVec 9 × BitVec 16
/-- `FLAGS` after draw `k`. Log 9. -/
opaque freeFlags : Nat → BitVec 2
/-- `PROGRESS` after draw `k`. Log 9. -/
opaque freeProgress : Nat → Bool
/-- `ACC` after draw `k`. Log 9. -/
opaque freeAcc : Nat → BitVec 7
/-- `NB` after draw `k`. Log 9. -/
opaque freeNb : Nat → BitVec 3

end Config

/-- The parameters of one instance (00_scope.md R6 to R8). No command changes them (70_reset_and_hazards.md R260). -/
structure Params where
  /-- `WSIZE` (R7). -/
  wsize : Nat
  /-- `QCAP` (R8). -/
  qcap : Nat
  /-- `LA_CAP` (R8). -/
  laCap : Nat
  /-- `MAX_MATCH` (R6). -/
  maxMatch : Nat
  deriving DecidableEq, Repr

/-- The defaults of this hardware (table of 00_scope.md section 3). -/
def Params.default : Params := { wsize := 32768, qcap := 16384, laCap := 32768, maxMatch := 257 }

/-- The legal ranges of the parameters (table of 00_scope.md section 3). -/
abbrev Params.legal (c : Params) : Prop :=
  (1 ≤ c.wsize ∧ c.wsize ≤ 32768) ∧ (1 ≤ c.qcap ∧ c.qcap ≤ 65535) ∧
  (c.maxMatch ≤ c.laCap ∧ c.laCap ≤ 2147483647) ∧ (3 ≤ c.maxMatch ∧ c.maxMatch ≤ 258)

end Sys2Proof
end

