-- ==== Sys2Proof/Syntax.lean ====
section
/-! DEFINITION. The instruction set as the opcode table lists it (spec/opcode_table.json, 100 rows in six formats), the
formats, and the host's actions on the core (30_encoding.md R80 to R99, 10_state.md R38). -/

namespace Sys2Proof

/-- One constructor per row of the opcode table. The first six rows are the words the host writes to `CMD`
(30_encoding.md R80); the others are what the core sends to the sink (30_encoding.md part B). Log 2. -/
inductive Instr where
  /-- `RESET`: `CMD = 0x00000000` (44_host_commands.md R201). -/
  | reset
  /-- `SET_INPUT`: `CMD = 0x00000001`; operands in `ARG_OFF`, `ARG_LEN`, `IBUF_SIZE` (R202). -/
  | setInput
  /-- `NEEDS_INPUT`: `CMD = 0x00000002` (R203). -/
  | needsInput
  /-- `STEP`: `CMD = 0x03 + 16*FL`; bit 0 of `fl` is FLUSH, bit 1 FINISH (R205). -/
  | step (fl : BitVec 2)
  /-- `GET_CHECKSUM`: `CMD = 0x00000004` (R207). -/
  | getChecksum
  /-- `RESERVED_CMD`: every other command word `w` (30_encoding.md R82). -/
  | reservedCmd (w : Word)
  /-- `BLOCK_STORED`: header value 0: a stored block, not final (R85, R92). -/
  | blockStored
  /-- `BLOCK_STORED_FINAL`: header value 1: a stored block, final (R85, R92). -/
  | blockStoredFinal
  /-- `BLOCK_STATIC`: header value 2: a static block, not final (R85, R95). -/
  | blockStatic
  /-- `BLOCK_STATIC_FINAL`: header value 3: a static block, final (R85, R95). -/
  | blockStaticFinal
  /-- `BLOCK_DYNAMIC`: header value 4: a dynamic block, not final (R85, R96). -/
  | blockDynamic
  /-- `BLOCK_DYNAMIC_FINAL`: header value 5: a dynamic block, final (R85, R96). -/
  | blockDynamicFinal
  /-- `BLOCK_RESERVED`: header values 6 and 7, `BTYPE = 3` (R91). -/
  | blockReserved (bfinal : BitVec 1)
  /-- `LIT`: symbols 0..255 (R90). -/
  | lit (b : Byte)
  /-- `EOB`: symbol 256 (R90). -/
  | eob
  /-- `LEN_257`: symbol 257: lengths from 3, 0 extra bits (R86). -/
  | len257
  /-- `LEN_258`: symbol 258: lengths from 4, 0 extra bits (R86). -/
  | len258
  /-- `LEN_259`: symbol 259: lengths from 5, 0 extra bits (R86). -/
  | len259
  /-- `LEN_260`: symbol 260: lengths from 6, 0 extra bits (R86). -/
  | len260
  /-- `LEN_261`: symbol 261: lengths from 7, 0 extra bits (R86). -/
  | len261
  /-- `LEN_262`: symbol 262: lengths from 8, 0 extra bits (R86). -/
  | len262
  /-- `LEN_263`: symbol 263: lengths from 9, 0 extra bits (R86). -/
  | len263
  /-- `LEN_264`: symbol 264: lengths from 10, 0 extra bits (R86). -/
  | len264
  /-- `LEN_265`: symbol 265: lengths from 11, 1 extra bits (R86). -/
  | len265 (ev : BitVec 1)
  /-- `LEN_266`: symbol 266: lengths from 13, 1 extra bits (R86). -/
  | len266 (ev : BitVec 1)
  /-- `LEN_267`: symbol 267: lengths from 15, 1 extra bits (R86). -/
  | len267 (ev : BitVec 1)
  /-- `LEN_268`: symbol 268: lengths from 17, 1 extra bits (R86). -/
  | len268 (ev : BitVec 1)
  /-- `LEN_269`: symbol 269: lengths from 19, 2 extra bits (R86). -/
  | len269 (ev : BitVec 2)
  /-- `LEN_270`: symbol 270: lengths from 23, 2 extra bits (R86). -/
  | len270 (ev : BitVec 2)
  /-- `LEN_271`: symbol 271: lengths from 27, 2 extra bits (R86). -/
  | len271 (ev : BitVec 2)
  /-- `LEN_272`: symbol 272: lengths from 31, 2 extra bits (R86). -/
  | len272 (ev : BitVec 2)
  /-- `LEN_273`: symbol 273: lengths from 35, 3 extra bits (R86). -/
  | len273 (ev : BitVec 3)
  /-- `LEN_274`: symbol 274: lengths from 43, 3 extra bits (R86). -/
  | len274 (ev : BitVec 3)
  /-- `LEN_275`: symbol 275: lengths from 51, 3 extra bits (R86). -/
  | len275 (ev : BitVec 3)
  /-- `LEN_276`: symbol 276: lengths from 59, 3 extra bits (R86). -/
  | len276 (ev : BitVec 3)
  /-- `LEN_277`: symbol 277: lengths from 67, 4 extra bits (R86). -/
  | len277 (ev : BitVec 4)
  /-- `LEN_278`: symbol 278: lengths from 83, 4 extra bits (R86). -/
  | len278 (ev : BitVec 4)
  /-- `LEN_279`: symbol 279: lengths from 99, 4 extra bits (R86). -/
  | len279 (ev : BitVec 4)
  /-- `LEN_280`: symbol 280: lengths from 115, 4 extra bits (R86). -/
  | len280 (ev : BitVec 4)
  /-- `LEN_281`: symbol 281: lengths from 131, 5 extra bits (R86). -/
  | len281 (ev : BitVec 5)
  /-- `LEN_282`: symbol 282: lengths from 163, 5 extra bits (R86). -/
  | len282 (ev : BitVec 5)
  /-- `LEN_283`: symbol 283: lengths from 195, 5 extra bits (R86). -/
  | len283 (ev : BitVec 5)
  /-- `LEN_284`: symbol 284: lengths from 227, 5 extra bits (R86). -/
  | len284 (ev : BitVec 5)
  /-- `LEN_285`: symbol 285: lengths from 258, 0 extra bits (R86). -/
  | len285
  /-- `LL_RESERVED`: symbols 286 and 287 (R91). -/
  | llReserved (x : BitVec 1)
  /-- `DIST_0`: distance symbol 0: distances from 1, 0 extra bits (R87). -/
  | dist0
  /-- `DIST_1`: distance symbol 1: distances from 2, 0 extra bits (R87). -/
  | dist1
  /-- `DIST_2`: distance symbol 2: distances from 3, 0 extra bits (R87). -/
  | dist2
  /-- `DIST_3`: distance symbol 3: distances from 4, 0 extra bits (R87). -/
  | dist3
  /-- `DIST_4`: distance symbol 4: distances from 5, 1 extra bits (R87). -/
  | dist4 (ev : BitVec 1)
  /-- `DIST_5`: distance symbol 5: distances from 7, 1 extra bits (R87). -/
  | dist5 (ev : BitVec 1)
  /-- `DIST_6`: distance symbol 6: distances from 9, 2 extra bits (R87). -/
  | dist6 (ev : BitVec 2)
  /-- `DIST_7`: distance symbol 7: distances from 13, 2 extra bits (R87). -/
  | dist7 (ev : BitVec 2)
  /-- `DIST_8`: distance symbol 8: distances from 17, 3 extra bits (R87). -/
  | dist8 (ev : BitVec 3)
  /-- `DIST_9`: distance symbol 9: distances from 25, 3 extra bits (R87). -/
  | dist9 (ev : BitVec 3)
  /-- `DIST_10`: distance symbol 10: distances from 33, 4 extra bits (R87). -/
  | dist10 (ev : BitVec 4)
  /-- `DIST_11`: distance symbol 11: distances from 49, 4 extra bits (R87). -/
  | dist11 (ev : BitVec 4)
  /-- `DIST_12`: distance symbol 12: distances from 65, 5 extra bits (R87). -/
  | dist12 (ev : BitVec 5)
  /-- `DIST_13`: distance symbol 13: distances from 97, 5 extra bits (R87). -/
  | dist13 (ev : BitVec 5)
  /-- `DIST_14`: distance symbol 14: distances from 129, 6 extra bits (R87). -/
  | dist14 (ev : BitVec 6)
  /-- `DIST_15`: distance symbol 15: distances from 193, 6 extra bits (R87). -/
  | dist15 (ev : BitVec 6)
  /-- `DIST_16`: distance symbol 16: distances from 257, 7 extra bits (R87). -/
  | dist16 (ev : BitVec 7)
  /-- `DIST_17`: distance symbol 17: distances from 385, 7 extra bits (R87). -/
  | dist17 (ev : BitVec 7)
  /-- `DIST_18`: distance symbol 18: distances from 513, 8 extra bits (R87). -/
  | dist18 (ev : BitVec 8)
  /-- `DIST_19`: distance symbol 19: distances from 769, 8 extra bits (R87). -/
  | dist19 (ev : BitVec 8)
  /-- `DIST_20`: distance symbol 20: distances from 1025, 9 extra bits (R87). -/
  | dist20 (ev : BitVec 9)
  /-- `DIST_21`: distance symbol 21: distances from 1537, 9 extra bits (R87). -/
  | dist21 (ev : BitVec 9)
  /-- `DIST_22`: distance symbol 22: distances from 2049, 10 extra bits (R87). -/
  | dist22 (ev : BitVec 10)
  /-- `DIST_23`: distance symbol 23: distances from 3073, 10 extra bits (R87). -/
  | dist23 (ev : BitVec 10)
  /-- `DIST_24`: distance symbol 24: distances from 4097, 11 extra bits (R87). -/
  | dist24 (ev : BitVec 11)
  /-- `DIST_25`: distance symbol 25: distances from 6145, 11 extra bits (R87). -/
  | dist25 (ev : BitVec 11)
  /-- `DIST_26`: distance symbol 26: distances from 8193, 12 extra bits (R87). -/
  | dist26 (ev : BitVec 12)
  /-- `DIST_27`: distance symbol 27: distances from 12289, 12 extra bits (R87). -/
  | dist27 (ev : BitVec 12)
  /-- `DIST_28`: distance symbol 28: distances from 16385, 13 extra bits (R87). -/
  | dist28 (ev : BitVec 13)
  /-- `DIST_29`: distance symbol 29: distances from 24577, 13 extra bits (R87). -/
  | dist29 (ev : BitVec 13)
  /-- `DIST_RESERVED`: distance symbols 30 and 31 (R91). -/
  | distReserved (x : BitVec 1)
  /-- `CL_0`: code-length symbol 0, 0 extra bits (R88). -/
  | cl0
  /-- `CL_1`: code-length symbol 1, 0 extra bits (R88). -/
  | cl1
  /-- `CL_2`: code-length symbol 2, 0 extra bits (R88). -/
  | cl2
  /-- `CL_3`: code-length symbol 3, 0 extra bits (R88). -/
  | cl3
  /-- `CL_4`: code-length symbol 4, 0 extra bits (R88). -/
  | cl4
  /-- `CL_5`: code-length symbol 5, 0 extra bits (R88). -/
  | cl5
  /-- `CL_6`: code-length symbol 6, 0 extra bits (R88). -/
  | cl6
  /-- `CL_7`: code-length symbol 7, 0 extra bits (R88). -/
  | cl7
  /-- `CL_8`: code-length symbol 8, 0 extra bits (R88). -/
  | cl8
  /-- `CL_9`: code-length symbol 9, 0 extra bits (R88). -/
  | cl9
  /-- `CL_10`: code-length symbol 10, 0 extra bits (R88). -/
  | cl10
  /-- `CL_11`: code-length symbol 11, 0 extra bits (R88). -/
  | cl11
  /-- `CL_12`: code-length symbol 12, 0 extra bits (R88). -/
  | cl12
  /-- `CL_13`: code-length symbol 13, 0 extra bits (R88). -/
  | cl13
  /-- `CL_14`: code-length symbol 14, 0 extra bits (R88). -/
  | cl14
  /-- `CL_15`: code-length symbol 15, 0 extra bits (R88). -/
  | cl15
  /-- `CL_16`: code-length symbol 16, 2 extra bits (R88). -/
  | cl16 (ev : BitVec 2)
  /-- `CL_17`: code-length symbol 17, 3 extra bits (R88). -/
  | cl17 (ev : BitVec 3)
  /-- `CL_18`: code-length symbol 18, 7 extra bits (R88). -/
  | cl18 (ev : BitVec 7)
  /-- `STATIC_LL_0_143`: MSB-first code `cccccccc` in 0x30..0xBF, symbol `c - 0x30` (R93). -/
  | staticLl0To143 (c : BitVec 8)
  /-- `STATIC_LL_144_255`: MSB-first code `1cccccccc` in 0x190..0x1FF, symbol `144 + (0x100 + c - 0x190)` (R93). -/
  | staticLl144To255 (c : BitVec 8)
  /-- `STATIC_LL_256_279`: MSB-first code `00ccccc`, symbol `256 + c`, `c` in 0..23 (R93). -/
  | staticLl256To279 (c : BitVec 5)
  /-- `STATIC_LL_280_287`: MSB-first code `11000ccc`, symbol `280 + c` (R93). -/
  | staticLl280To287 (c : BitVec 3)
  /-- `STATIC_DIST`: MSB-first code `ccccc`, distance symbol `c` in 0..29 (R94). -/
  | staticDist (c : BitVec 5)
  deriving DecidableEq, Repr

/-- The formats of the opcode table (30_encoding.md, end of part A). The patterns of `STATIC` have four code lengths, so
that format carries the length of the code in bits. -/
inductive Format where
  /-- `CMDW`: a 32-bit command word (R80). -/
  | cmdw
  /-- `BHDR`: the 3-bit block header (R85). -/
  | bhdr
  /-- `LLSYM`: the 9-bit literal/length symbol, then its extra bits (R86, R90). -/
  | llsym
  /-- `DSYM`: the 5-bit distance symbol, then its extra bits (R87). -/
  | dsym
  /-- `CLSYM`: the 5-bit code-length symbol, then its extra bits (R88). -/
  | clsym
  /-- `STATIC`: a static code of `n` bits read most significant bit first (R93, R94): 5 for a distance, 7, 8 or 9 for a
  literal or length. -/
  | static (n : Nat)
  deriving DecidableEq, Repr

/-- Why the decoder rejects a word of a format. -/
inductive DecodeError where
  /-- A bit above the format's symbol and its extra bits is 1. -/
  | unusedBits
  /-- The format has no symbol of this number (`LLSYM` 288..511, `CLSYM` 19..31). -/
  | noSuchSymbol
  /-- The format has no code of this value or length (`STATIC`). -/
  | noSuchCode
  /-- The word spells what the core never sends: static symbols 286 and 287, distance codes 30 and 31 (30_encoding.md R91),
  extra value 31 of symbol 284 (R86: `c = 27` has remainders 0..30 only). -/
  | neverSent
  /-- A command word: it is written to `CMD`, the core does not send it (30_encoding.md R80). -/
  | commandWord
  deriving DecidableEq, Repr

/-- What the outside world does to the core, one action at a time (20_memory.md R68). A command is the write of its word
to `CMD`; no action writes a bit of the output (43_bit_serializer.md R194). Log 1. -/
inductive HostAction where
  /-- A register write of `bytes` bytes at offset `off` of `REG` (10_state.md R38). -/
  | write (off : Word) (bytes : Nat) (v : Word)
  /-- A register read of `bytes` bytes at offset `off` of `REG` (10_state.md R38). -/
  | read (off : Word) (bytes : Nat)
  /-- The host stores byte `b` at offset `a` of `IBUF` (20_memory.md R60, R71). -/
  | ibufWrite (a : Word) (b : Byte)
  /-- Power-on reset (70_reset_and_hazards.md R250). -/
  | powerOn
  deriving DecidableEq, Repr

end Sys2Proof
end

