-- ==== Sys2Proof/WellFormed.lean ====
section
/-! DEFINITION. Which instructions are well formed: the checks the operand types do not make by themselves. -/

namespace Sys2Proof

/-- The eight words that are commands (30_encoding.md R83): every other word is reserved (R82). -/
def isCommandWord (w : Word) : Bool :=
  decide (w.toNat ∈ [0x00, 0x01, 0x02, 0x03, 0x13, 0x23, 0x33, 0x04])

/-- The operand checks: a reserved command word is no command (30_encoding.md R82); symbol 284 has remainders 0..30 only
(R86); a static code lies in its row's range and is one the core sends (R91, R93, R94). Every other operand fills its
type. Log 5. -/
def Instr.wf : Instr → Bool
  | .reservedCmd w => !isCommandWord w
  | .len284 ev => decide (ev.toNat ≤ 30)
  | .staticLl0To143 c => decide (0x30 ≤ c.toNat ∧ c.toNat ≤ 0xBF)
  | .staticLl144To255 c => decide (0x90 ≤ c.toNat)
  | .staticLl256To279 c => decide (c.toNat ≤ 23)
  | .staticLl280To287 c => decide (c.toNat ≤ 5)
  | .staticDist c => decide (c.toNat ≤ 29)
  | .reset | .setInput | .needsInput | .step _ | .getChecksum | .blockStored | .blockStoredFinal | .blockStatic
  | .blockStaticFinal | .blockDynamic | .blockDynamicFinal | .blockReserved _ | .lit _ | .eob | .len257 | .len258
  | .len259 | .len260 | .len261 | .len262 | .len263 | .len264 | .len265 _ | .len266 _ | .len267 _ | .len268 _
  | .len269 _ | .len270 _ | .len271 _ | .len272 _ | .len273 _ | .len274 _ | .len275 _ | .len276 _ | .len277 _
  | .len278 _ | .len279 _ | .len280 _ | .len281 _ | .len282 _ | .len283 _ | .len285 | .llReserved _ | .dist0 | .dist1
  | .dist2 | .dist3 | .dist4 _ | .dist5 _ | .dist6 _ | .dist7 _ | .dist8 _ | .dist9 _ | .dist10 _ | .dist11 _
  | .dist12 _ | .dist13 _ | .dist14 _ | .dist15 _ | .dist16 _ | .dist17 _ | .dist18 _ | .dist19 _ | .dist20 _
  | .dist21 _ | .dist22 _ | .dist23 _ | .dist24 _ | .dist25 _ | .dist26 _ | .dist27 _ | .dist28 _ | .dist29 _
  | .distReserved _ | .cl0 | .cl1 | .cl2 | .cl3 | .cl4 | .cl5 | .cl6 | .cl7 | .cl8 | .cl9 | .cl10 | .cl11 | .cl12
  | .cl13 | .cl14 | .cl15 | .cl16 _ | .cl17 _ | .cl18 _ => true

end Sys2Proof
end

