-- ==== Sys2Proof/Decode.lean ====
section
/-! DEFINITION. The decoder of each format of the opcode table, total on every word, and the encoder (30_encoding.md R80,
R82, R85 to R88, R90, R91, R93, R94). A word is held in 32 bits; a symbol's extra bits stand above the symbol (log 2). -/

namespace Sys2Proof

/-- The command word: `OP` in bits 3..0, `FL` in bits 5..4, `Z` in bits 31..6 (R80). Every word that is no command is the
reserved row (R82), so nothing is rejected. -/
def decodeCmd (w : Word) : Instr :=
  let n := w.toNat
  if n / 64 ≠ 0 then .reservedCmd w
  else if n % 16 = 3 then .step (.ofNat 2 (n / 16))
  else match n with
    | 0 => .reset
    | 1 => .setInput
    | 2 => .needsInput
    | 4 => .getChecksum
    | _ => .reservedCmd w

/-- The block header values (table of R85; 6 and 7 are R91). -/
def decodeHeader (n : Nat) : Except DecodeError Instr :=
  match n with
  | 0 => .ok .blockStored
  | 1 => .ok .blockStoredFinal
  | 2 => .ok .blockStatic
  | 3 => .ok .blockStaticFinal
  | 4 => .ok .blockDynamic
  | 5 => .ok .blockDynamicFinal
  | 6 => .ok (.blockReserved 0)
  | 7 => .ok (.blockReserved 1)
  | _ => .error .unusedBits

/-- A symbol without extra bits: nothing may stand above it. -/
def noExtra (ev : Nat) (i : Instr) : Except DecodeError Instr :=
  if ev = 0 then .ok i else .error .unusedBits

/-- A symbol with `eb` extra bits above it. -/
def withExtra (eb ev : Nat) (mk : BitVec eb → Instr) : Except DecodeError Instr :=
  if ev < 2 ^ eb then .ok (mk (.ofNat eb ev)) else .error .unusedBits

/-- The length symbol `257 + c` with extra value `ev` (table of R86). -/
def decodeLen (c ev : Nat) : Except DecodeError Instr :=
  match c with
  | 0 => noExtra ev .len257
  | 1 => noExtra ev .len258
  | 2 => noExtra ev .len259
  | 3 => noExtra ev .len260
  | 4 => noExtra ev .len261
  | 5 => noExtra ev .len262
  | 6 => noExtra ev .len263
  | 7 => noExtra ev .len264
  | 8 => withExtra 1 ev .len265
  | 9 => withExtra 1 ev .len266
  | 10 => withExtra 1 ev .len267
  | 11 => withExtra 1 ev .len268
  | 12 => withExtra 2 ev .len269
  | 13 => withExtra 2 ev .len270
  | 14 => withExtra 2 ev .len271
  | 15 => withExtra 2 ev .len272
  | 16 => withExtra 3 ev .len273
  | 17 => withExtra 3 ev .len274
  | 18 => withExtra 3 ev .len275
  | 19 => withExtra 3 ev .len276
  | 20 => withExtra 4 ev .len277
  | 21 => withExtra 4 ev .len278
  | 22 => withExtra 4 ev .len279
  | 23 => withExtra 4 ev .len280
  | 24 => withExtra 5 ev .len281
  | 25 => withExtra 5 ev .len282
  | 26 => withExtra 5 ev .len283
  | 27 => if ev = 31 then .error .neverSent else withExtra 5 ev .len284
  | 28 => noExtra ev .len285
  | _ => .error .noSuchSymbol

/-- The literal/length symbol in bits 8..0 and its extra bits above it (R86, R90, R91). -/
def decodeLitLen (n : Nat) : Except DecodeError Instr :=
  let sym := n % 512
  let ev := n / 512
  if sym < 256 then noExtra ev (.lit (.ofNat 8 sym))
  else if sym = 256 then noExtra ev .eob
  else if sym < 286 then decodeLen (sym - 257) ev
  else if sym < 288 then noExtra ev (.llReserved (.ofNat 1 (sym - 286)))
  else .error .noSuchSymbol

/-- The distance symbol `c` with extra value `ev` (table of R87). -/
def decodeDistRow (c ev : Nat) : Except DecodeError Instr :=
  match c with
  | 0 => noExtra ev .dist0
  | 1 => noExtra ev .dist1
  | 2 => noExtra ev .dist2
  | 3 => noExtra ev .dist3
  | 4 => withExtra 1 ev .dist4
  | 5 => withExtra 1 ev .dist5
  | 6 => withExtra 2 ev .dist6
  | 7 => withExtra 2 ev .dist7
  | 8 => withExtra 3 ev .dist8
  | 9 => withExtra 3 ev .dist9
  | 10 => withExtra 4 ev .dist10
  | 11 => withExtra 4 ev .dist11
  | 12 => withExtra 5 ev .dist12
  | 13 => withExtra 5 ev .dist13
  | 14 => withExtra 6 ev .dist14
  | 15 => withExtra 6 ev .dist15
  | 16 => withExtra 7 ev .dist16
  | 17 => withExtra 7 ev .dist17
  | 18 => withExtra 8 ev .dist18
  | 19 => withExtra 8 ev .dist19
  | 20 => withExtra 9 ev .dist20
  | 21 => withExtra 9 ev .dist21
  | 22 => withExtra 10 ev .dist22
  | 23 => withExtra 10 ev .dist23
  | 24 => withExtra 11 ev .dist24
  | 25 => withExtra 11 ev .dist25
  | 26 => withExtra 12 ev .dist26
  | 27 => withExtra 12 ev .dist27
  | 28 => withExtra 13 ev .dist28
  | 29 => withExtra 13 ev .dist29
  | _ => .error .noSuchSymbol

/-- The distance symbol in bits 4..0 and its extra bits above it (R87, R91). -/
def decodeDist (n : Nat) : Except DecodeError Instr :=
  let sym := n % 32
  if sym < 30 then decodeDistRow sym (n / 32) else noExtra (n / 32) (.distReserved (.ofNat 1 (sym - 30)))

/-- The code-length symbol `c` with extra value `ev` (R88). -/
def decodeCodeLen (c ev : Nat) : Except DecodeError Instr :=
  match c with
  | 0 => noExtra ev .cl0
  | 1 => noExtra ev .cl1
  | 2 => noExtra ev .cl2
  | 3 => noExtra ev .cl3
  | 4 => noExtra ev .cl4
  | 5 => noExtra ev .cl5
  | 6 => noExtra ev .cl6
  | 7 => noExtra ev .cl7
  | 8 => noExtra ev .cl8
  | 9 => noExtra ev .cl9
  | 10 => noExtra ev .cl10
  | 11 => noExtra ev .cl11
  | 12 => noExtra ev .cl12
  | 13 => noExtra ev .cl13
  | 14 => noExtra ev .cl14
  | 15 => noExtra ev .cl15
  | 16 => withExtra 2 ev .cl16
  | 17 => withExtra 3 ev .cl17
  | 18 => withExtra 7 ev .cl18
  | _ => .error .noSuchSymbol

/-- The static codes, most significant bit first, by their length in bits (tables of R93 and R94). -/
def decodeStatic (bits n : Nat) : Except DecodeError Instr :=
  match bits with
  | 5 => if n < 30 then .ok (.staticDist (.ofNat 5 n)) else if n < 32 then .error .neverSent else .error .unusedBits
  | 7 => if n < 24 then .ok (.staticLl256To279 (.ofNat 5 n)) else .error .noSuchCode
  | 8 =>
    if n < 0x30 then .error .noSuchCode
    else if n < 0xC0 then .ok (.staticLl0To143 (.ofNat 8 n))
    else if n < 0xC6 then .ok (.staticLl280To287 (.ofNat 3 (n - 0xC0)))
    else if n < 0xC8 then .error .neverSent
    else .error .noSuchCode
  | 9 => if 0x190 ≤ n ∧ n < 0x200 then .ok (.staticLl144To255 (.ofNat 8 (n - 0x100))) else .error .noSuchCode
  | _ => .error .noSuchCode

/-- The instruction that word `w` of format `fmt` is. -/
def decode (fmt : Format) (w : Word) : Except DecodeError Instr :=
  match fmt with
  | .cmdw => .ok (decodeCmd w)
  | .bhdr => decodeHeader w.toNat
  | .llsym => decodeLitLen w.toNat
  | .dsym => decodeDist w.toNat
  | .clsym => decodeCodeLen (w.toNat % 32) (w.toNat / 32)
  | .static bits => decodeStatic bits w.toNat

/-- The format and word of an instruction, from the same tables. -/
def encode : Instr → Format × Word
  | .reset => (.cmdw, 0#32)
  | .setInput => (.cmdw, 1#32)
  | .needsInput => (.cmdw, 2#32)
  | .step fl => (.cmdw, .ofNat 32 (3 + 16 * fl.toNat))
  | .getChecksum => (.cmdw, 4#32)
  | .reservedCmd w => (.cmdw, w)
  | .blockStored => (.bhdr, 0#32)
  | .blockStoredFinal => (.bhdr, 1#32)
  | .blockStatic => (.bhdr, 2#32)
  | .blockStaticFinal => (.bhdr, 3#32)
  | .blockDynamic => (.bhdr, 4#32)
  | .blockDynamicFinal => (.bhdr, 5#32)
  | .blockReserved bfinal => (.bhdr, .ofNat 32 (6 + bfinal.toNat))
  | .lit b => (.llsym, .ofNat 32 b.toNat)
  | .eob => (.llsym, 256#32)
  | .len257 => (.llsym, 257#32)
  | .len258 => (.llsym, 258#32)
  | .len259 => (.llsym, 259#32)
  | .len260 => (.llsym, 260#32)
  | .len261 => (.llsym, 261#32)
  | .len262 => (.llsym, 262#32)
  | .len263 => (.llsym, 263#32)
  | .len264 => (.llsym, 264#32)
  | .len265 ev => (.llsym, .ofNat 32 (265 + 512 * ev.toNat))
  | .len266 ev => (.llsym, .ofNat 32 (266 + 512 * ev.toNat))
  | .len267 ev => (.llsym, .ofNat 32 (267 + 512 * ev.toNat))
  | .len268 ev => (.llsym, .ofNat 32 (268 + 512 * ev.toNat))
  | .len269 ev => (.llsym, .ofNat 32 (269 + 512 * ev.toNat))
  | .len270 ev => (.llsym, .ofNat 32 (270 + 512 * ev.toNat))
  | .len271 ev => (.llsym, .ofNat 32 (271 + 512 * ev.toNat))
  | .len272 ev => (.llsym, .ofNat 32 (272 + 512 * ev.toNat))
  | .len273 ev => (.llsym, .ofNat 32 (273 + 512 * ev.toNat))
  | .len274 ev => (.llsym, .ofNat 32 (274 + 512 * ev.toNat))
  | .len275 ev => (.llsym, .ofNat 32 (275 + 512 * ev.toNat))
  | .len276 ev => (.llsym, .ofNat 32 (276 + 512 * ev.toNat))
  | .len277 ev => (.llsym, .ofNat 32 (277 + 512 * ev.toNat))
  | .len278 ev => (.llsym, .ofNat 32 (278 + 512 * ev.toNat))
  | .len279 ev => (.llsym, .ofNat 32 (279 + 512 * ev.toNat))
  | .len280 ev => (.llsym, .ofNat 32 (280 + 512 * ev.toNat))
  | .len281 ev => (.llsym, .ofNat 32 (281 + 512 * ev.toNat))
  | .len282 ev => (.llsym, .ofNat 32 (282 + 512 * ev.toNat))
  | .len283 ev => (.llsym, .ofNat 32 (283 + 512 * ev.toNat))
  | .len284 ev => (.llsym, .ofNat 32 (284 + 512 * ev.toNat))
  | .len285 => (.llsym, 285#32)
  | .llReserved x => (.llsym, .ofNat 32 (286 + x.toNat))
  | .dist0 => (.dsym, 0#32)
  | .dist1 => (.dsym, 1#32)
  | .dist2 => (.dsym, 2#32)
  | .dist3 => (.dsym, 3#32)
  | .dist4 ev => (.dsym, .ofNat 32 (4 + 32 * ev.toNat))
  | .dist5 ev => (.dsym, .ofNat 32 (5 + 32 * ev.toNat))
  | .dist6 ev => (.dsym, .ofNat 32 (6 + 32 * ev.toNat))
  | .dist7 ev => (.dsym, .ofNat 32 (7 + 32 * ev.toNat))
  | .dist8 ev => (.dsym, .ofNat 32 (8 + 32 * ev.toNat))
  | .dist9 ev => (.dsym, .ofNat 32 (9 + 32 * ev.toNat))
  | .dist10 ev => (.dsym, .ofNat 32 (10 + 32 * ev.toNat))
  | .dist11 ev => (.dsym, .ofNat 32 (11 + 32 * ev.toNat))
  | .dist12 ev => (.dsym, .ofNat 32 (12 + 32 * ev.toNat))
  | .dist13 ev => (.dsym, .ofNat 32 (13 + 32 * ev.toNat))
  | .dist14 ev => (.dsym, .ofNat 32 (14 + 32 * ev.toNat))
  | .dist15 ev => (.dsym, .ofNat 32 (15 + 32 * ev.toNat))
  | .dist16 ev => (.dsym, .ofNat 32 (16 + 32 * ev.toNat))
  | .dist17 ev => (.dsym, .ofNat 32 (17 + 32 * ev.toNat))
  | .dist18 ev => (.dsym, .ofNat 32 (18 + 32 * ev.toNat))
  | .dist19 ev => (.dsym, .ofNat 32 (19 + 32 * ev.toNat))
  | .dist20 ev => (.dsym, .ofNat 32 (20 + 32 * ev.toNat))
  | .dist21 ev => (.dsym, .ofNat 32 (21 + 32 * ev.toNat))
  | .dist22 ev => (.dsym, .ofNat 32 (22 + 32 * ev.toNat))
  | .dist23 ev => (.dsym, .ofNat 32 (23 + 32 * ev.toNat))
  | .dist24 ev => (.dsym, .ofNat 32 (24 + 32 * ev.toNat))
  | .dist25 ev => (.dsym, .ofNat 32 (25 + 32 * ev.toNat))
  | .dist26 ev => (.dsym, .ofNat 32 (26 + 32 * ev.toNat))
  | .dist27 ev => (.dsym, .ofNat 32 (27 + 32 * ev.toNat))
  | .dist28 ev => (.dsym, .ofNat 32 (28 + 32 * ev.toNat))
  | .dist29 ev => (.dsym, .ofNat 32 (29 + 32 * ev.toNat))
  | .distReserved x => (.dsym, .ofNat 32 (30 + x.toNat))
  | .cl0 => (.clsym, 0#32)
  | .cl1 => (.clsym, 1#32)
  | .cl2 => (.clsym, 2#32)
  | .cl3 => (.clsym, 3#32)
  | .cl4 => (.clsym, 4#32)
  | .cl5 => (.clsym, 5#32)
  | .cl6 => (.clsym, 6#32)
  | .cl7 => (.clsym, 7#32)
  | .cl8 => (.clsym, 8#32)
  | .cl9 => (.clsym, 9#32)
  | .cl10 => (.clsym, 10#32)
  | .cl11 => (.clsym, 11#32)
  | .cl12 => (.clsym, 12#32)
  | .cl13 => (.clsym, 13#32)
  | .cl14 => (.clsym, 14#32)
  | .cl15 => (.clsym, 15#32)
  | .cl16 ev => (.clsym, .ofNat 32 (16 + 32 * ev.toNat))
  | .cl17 ev => (.clsym, .ofNat 32 (17 + 32 * ev.toNat))
  | .cl18 ev => (.clsym, .ofNat 32 (18 + 32 * ev.toNat))
  | .staticLl0To143 c => (.static 8, .ofNat 32 c.toNat)
  | .staticLl144To255 c => (.static 9, .ofNat 32 (0x100 + c.toNat))
  | .staticLl256To279 c => (.static 7, .ofNat 32 c.toNat)
  | .staticLl280To287 c => (.static 8, .ofNat 32 (0xC0 + c.toNat))
  | .staticDist c => (.static 5, .ofNat 32 c.toNat)

/-- The format in which a table word of `nbits` bits (the table's width in whole bytes) and value `n` is read. The table's
formats overlap as numbers: 32 bits are a command word; 16 bits are a `LLSYM` symbol unless no symbol has that number and
the 9-bit static codes do; 8 bits are read in the format with the fewest words that has `n` (`BHDR` 0..7, `CLSYM` to 18,
`DSYM` to 31, then the 8-bit static codes). A width below a byte names its format by itself. Log 4. -/
def tableFormat (nbits n : Nat) : Format :=
  if nbits ≤ 3 then .bhdr
  else if nbits ≤ 5 then (if n < 19 then .clsym else .dsym)
  else if nbits ≤ 7 then .static 7
  else if nbits ≤ 8 then
    if n < 8 then .bhdr else if n < 19 then .clsym else if n < 32 then .dsym else .static 8
  else if nbits ≤ 16 then (if 0x190 ≤ n ∧ n < 0x200 then .static 9 else .llsym)
  else .cmdw

/-- The `nbits` low bits of `w`, which is all a table word holds. -/
def tableBits (nbits w : Nat) : Nat := w % 2 ^ nbits

/-- The instruction of the table word `w` of `nbits` bits. -/
def decodeTableWord (nbits w : Nat) : Option Instr :=
  match decode (tableFormat nbits (tableBits nbits w)) (.ofNat 32 (tableBits nbits w)) with
  | .ok i => some i
  | .error _ => none

end Sys2Proof
end

