-- ==== Sys2Proof/Machine/State.lean ====
section
/-! DEFINITION. The state of the core as spec 10_state.md gives it, the host's side of it, the reasons a step can stop, and
the state after power-on reset (10_state.md R39). State is plain data. -/

namespace Sys2Proof.Machine

/-- `PHASE` (10_state.md R21). The values 5 to 7 are never held. -/
inductive Phase where
  /-- 0: tokens are being found and tallied. -/
  | accumulating
  /-- 1: a block is being sized. -/
  | sizing
  /-- 2: the chosen encoding is being written. -/
  | emitting
  /-- 3: the final block has been emitted and the stream padded. -/
  | done
  /-- 4: a fatal fault has been taken. -/
  | fault
  deriving DecidableEq, Repr

/-- `FCODE` (10_state.md R22, 60_exceptions.md R220). The codes 7 to 15 are never produced. -/
inductive FCode where
  /-- 0 `F_NONE`. -/
  | none
  /-- 1 `F_INPUT_PENDING`. -/
  | inputPending
  /-- 2 `F_BOUNDS`. -/
  | bounds
  /-- 3 `F_FREQ_NONZERO`. -/
  | freqNonzero
  /-- 4 `F_LIMIT_DIVERGE`. -/
  | limitDiverge
  /-- 5 `F_BAD_CMD`. -/
  | badCmd
  /-- 6 `F_FINISHED`. -/
  | finished
  deriving DecidableEq, Repr

/-- Where the machine is stuck: a micro-operation is reached in a state its rule does not admit. The spec's own faults are
no stops but next states (60_exceptions.md R221). Log 12. -/
inductive Fault where
  /-- Raised by TALLY when the queue is already full: "Requires `QN < QCAP`" (40_match_finder.md R126). No reachable state
  raises it. Safe. -/
  | tallyQueueFull
  /-- Raised by CLOSE_BLOCK when `PHASE` is not `ACCUMULATING`: "Requires `PHASE = ACCUMULATING`"
  (42_block_coordinator.md R160). No reachable state raises it. Safe. -/
  | closeOutsideAccumulating
  deriving DecidableEq, Repr

/-- What the model does not admit. -/
inductive Refusal where
  /-- Raised by `exec` for an instruction without a meaning; no arm raises it. Safe. -/
  | notModelled (mnemonic : String)
  /-- Raised by the host port for a register access that is not an aligned 32-bit one: "misaligned or narrower accesses:
  refuse" (93_implementation_defined.md U9). Safe. Log 13. -/
  | badAccess
  /-- Raised by FILL when `TOTAL_IN` would reach 2^61 and by the serializer when `BITPOS` would reach 2^64 (U11: refuse).
  Safe. Log 10. -/
  | streamTooLong
  /-- Raised by the serializer for `PUT_BITS(v, n)` with `v >= 2^n` or `n > 16` and for `PUT_BYTES` with `NB != 0` (U5:
  refuse). Safe. Log 11. -/
  | serializerPrecondition
  /-- Raised by the three reserved rows of the output formats, which "are never produced" and which the core "gives no
  meaning" (30_encoding.md R91, U10). Safe. Log 5. -/
  | reservedOutput
  /-- Raised by a step of `EMITTING` for an element to send whose word its format does not have. Safe. Log 2. -/
  | undecodable (why : DecodeError)
  deriving DecidableEq, Repr

/-- One entry of the pending-symbol queue: `d = 0` marks the literal `a`, otherwise a match of length `a` at distance `d`
(10_state.md R31). -/
structure QEntry where
  a : BitVec 9
  d : BitVec 16
  deriving DecidableEq, Repr

/-- The Bit Serializer and the stream it appends to (10_state.md R34, 20_memory.md R63). -/
structure Serializer where
  /-- `ACC`: the bits not yet forming a whole byte, the oldest in bit 0. -/
  acc : BitVec 7
  /-- `NB`: how many bits `ACC` holds. -/
  nb : BitVec 3
  /-- `BITPOS`: bits written in this run, a `u64` (log 10). -/
  bitpos : Nat
  /-- `OUT`: the bytes appended in this run, the first one first. -/
  out : List Byte
  deriving DecidableEq, Repr

/-- Host memory behind `IBUF`: (offset, byte) pairs, offsets strictly rising, no pair holding the byte an unlisted offset
reads as (20_memory.md R60; log 8). -/
abbrev Memory := List Host.Cell

/-- The state of the core and of its host's side. -/
structure State where
  /-- The parameters of this instance, never written (70_reset_and_hazards.md R260; log 6). -/
  params : Params
  /-- The host's pending actions, the next one first (the model's own field; log 1). -/
  script : List HostAction
  /-- `IBUF` (20_memory.md R60). -/
  ibuf : Memory
  /-- What the last register read returned (the model's own field; log 14). -/
  busData : Word
  /-- `IBUF_SIZE` (R25). -/
  ibufSize : Word
  /-- `ARG_OFF` (R38). -/
  argOff : Word
  /-- `ARG_LEN` (R38). -/
  argLen : Word
  /-- `PHASE` (R21). -/
  phase : Phase
  /-- `FCODE` (R22). -/
  fcode : FCode
  /-- `FINFO` (R22). -/
  finfo : Word
  /-- `FLAGS`: bit 0 `FLUSH`, bit 1 `FINISH` (R23). -/
  flags : BitVec 2
  /-- `PROGRESS` (R24). -/
  progress : Bool
  /-- `RSTAT.ERR`: the last command responded `ERR` (R38). -/
  rerr : Bool
  /-- `RVAL` (R38). -/
  rval : Word
  /-- `IN_OFF` (R26). -/
  inOff : Word
  /-- `IN_LEN` (R26). -/
  inLen : Word
  /-- `P`, a `u64` (R27; log 10). -/
  p : Nat
  /-- `BLK_START`, a `u64` (R27). -/
  blkStart : Nat
  /-- `S`, all bytes consumed in this run; `TOTAL_IN` is its length (R27, R28). -/
  window : List Byte
  /-- `CKSUM` (R29). -/
  cksum : Word
  /-- `LFREQ[0..285]` (R30). -/
  lfreq : List Word
  /-- `DFREQ[0..29]` (R30). -/
  dfreq : List Word
  /-- `BLFREQ[0..18]` (R30). -/
  blfreq : List Word
  /-- `Q[0..QN)`; `QN` is its length (R31). -/
  q : List QEntry
  /-- `ACC`, `NB`, `BITPOS` and `OUT` (R34, 20_memory.md R63). -/
  ser : Serializer
  /-- What the core has still to send of the block it is emitting: output elements by format and word, the next one first.
  Read only in `PHASE = EMITTING`; no host action writes it (the model's own field; logs 2 and 4). -/
  emission : List (Format × Word)
  /-- How often an unspecified after-fault state was drawn (the model's own field; log 9). -/
  free : Nat
  deriving DecidableEq, Repr

/-- The serializer after reset, with a new empty stream (10_state.md R39, 20_memory.md R64). -/
def Serializer.reset : Serializer := { acc := 0, nb := 0, bitpos := 0, out := [] }

/-- The core right after power-on (10_state.md R39, 70_reset_and_hazards.md R250): it waits for a command (R251). -/
def State.reset : State :=
  { params := Params.default, script := [], ibuf := [], busData := 0
    ibufSize := 0, argOff := 0, argLen := 0
    phase := .accumulating, fcode := .none, finfo := 0, flags := 0, progress := false, rerr := false, rval := 0
    inOff := 0, inLen := 0, p := 0, blkStart := 0, window := [], cksum := Config.ckInit
    lfreq := List.replicate Config.lCodes 0, dfreq := List.replicate Config.dCodes 0
    blfreq := List.replicate Config.blCodes 0
    q := [], ser := Serializer.reset, emission := [], free := 0 }

end Sys2Proof.Machine
end

