-- ==== Sys2Proof/Machine/Operands.lean ====
section
/-! DEFINITION. The operand forms of the output elements: bit fields, bit reversal, the length, distance and code-length
tables, the static codes, and the fields a token, a symbol or a code-length symbol is sent as (30_encoding.md R86 to R90,
R93, R94, R96; 41_huffman_builder.md R147). -/

namespace Sys2Proof.Machine

/-- The arguments of one `PUT_BITS(v, n)` (43_bit_serializer.md R190). -/
structure BitField where
  v : Nat
  n : Nat
  deriving DecidableEq, Repr

/-- What the Match Finder reports (00_scope.md R17). -/
inductive Token where
  /-- `Lit(b)`. -/
  | lit (b : Byte)
  /-- `Match(d, l)`. -/
  | ref (d l : Nat)
  deriving DecidableEq, Repr

/-- `bitrev(v, n)`: the `n`-bit value whose bit `i` is bit `n-1-i` of `v` (00_scope.md R12). -/
def bitrev (v : Nat) : Nat → Nat
  | 0 => 0
  | n + 1 => v % 2 * 2 ^ n + bitrev (v / 2) n

/-- `LBASE` (table of 30_encoding.md R86). -/
def lBase : List Nat :=
  [3, 4, 5, 6, 7, 8, 9, 10, 11, 13, 15, 17, 19, 23, 27] ++ [31, 35, 43, 51, 59, 67, 83, 99, 115, 131, 163, 195, 227, 258]

/-- `LEXTRA` (table of 30_encoding.md R86). -/
def lExtra : List Nat := [0, 0, 0, 0, 0, 0, 0, 0, 1, 1, 1, 1, 2, 2, 2] ++ [2, 3, 3, 3, 3, 4, 4, 4, 4, 5, 5, 5, 5, 0]

/-- `DBASE` (table of 30_encoding.md R87). -/
def dBase : List Nat :=
  [1, 2, 3, 4, 5, 7, 9, 13, 17, 25, 33, 49, 65, 97, 129] ++
  [193, 257, 385, 513, 769, 1025, 1537, 2049, 3073, 4097, 6145, 8193, 12289, 16385, 24577]

/-- `DEXTRA` (table of 30_encoding.md R87). -/
def dExtra : List Nat := [0, 0, 0, 0, 1, 1, 2, 2, 3, 3, 4, 4, 5, 5, 6] ++ [6, 7, 7, 8, 8, 9, 9, 10, 10, 11, 11, 12, 12, 13, 13]

/-- `BL_ORDER` (30_encoding.md R89). -/
def blOrder : List Nat := [16, 17, 18, 0, 8, 7, 9, 6, 10, 5, 11, 4, 12, 3, 13, 2, 14, 1, 15]

/-- Entry `i` of a table of numbers. -/
def entry (t : List Nat) (i : Nat) : Nat := t.getD i 0

/-- The largest index whose base is at most `x`, in a rising list of bases. -/
def largestAtMost (bases : List Nat) (x : Nat) : Nat := (bases.takeWhile (fun b => decide (b ≤ x))).length - 1

/-- `LenCode(l)` (30_encoding.md R86). -/
def lenCode (l : Nat) : Nat := if l = 258 then 28 else largestAtMost (lBase.take 28) l

/-- `DistCode(d)` (30_encoding.md R87). -/
def distCode (d : Nat) : Nat := largestAtMost dBase d

/-- The MSB-first static code of literal/length symbol `s` and its length in bits (table of 30_encoding.md R93). -/
def staticLitMsb (s : Nat) : Nat × Nat :=
  if s < 144 then (0x30 + s, 8)
  else if s < 256 then (0x190 + (s - 144), 9)
  else if s < 280 then (s - 256, 7)
  else (0xC0 + (s - 280), 8)

/-- `PUT_BITS(SLCODE[s], SLLEN[s])` (R93, 10_state.md R33). -/
def staticLit (s : Nat) : BitField :=
  { v := bitrev (staticLitMsb s).1 (staticLitMsb s).2, n := (staticLitMsb s).2 }

/-- `PUT_BITS(SDCODE[c], 5)` (R94, 10_state.md R33). -/
def staticDist (c : Nat) : BitField := { v := bitrev c 5, n := 5 }

/-- A code table: for each symbol its bit length and its bit-reversed canonical code (10_state.md R32). -/
structure CodeTable where
  len : List Nat
  code : List Nat
  deriving DecidableEq, Repr

/-- `PUT_BITS(xCODE[s], xLEN[s])` (10_state.md R32). -/
def CodeTable.field (t : CodeTable) (s : Nat) : BitField := { v := entry t.code s, n := entry t.len s }

/-- The code tables a block's symbols are sent with: the static ones or the block's own (30_encoding.md R95, R96). -/
inductive BlockCodes where
  | fixed
  | built (l d : CodeTable)
  deriving DecidableEq, Repr

/-- The code of literal/length symbol `s`. -/
def BlockCodes.lit (c : BlockCodes) (s : Nat) : BitField :=
  match c with
  | .fixed => staticLit s
  | .built l _ => l.field s

/-- The code of distance symbol `s`. -/
def BlockCodes.dist (c : BlockCodes) (s : Nat) : BitField :=
  match c with
  | .fixed => staticDist s
  | .built _ d => d.field s

/-- `if n > 0: PUT_BITS(v, n)`, the extra bits of R90 and R96. -/
def extraBits (v n : Nat) : List BitField := if 0 < n then [{ v := v, n := n }] else []

/-- The length symbol `257 + c` with extra value `ev` (first half of a match in R90). -/
def lenFields (codes : BlockCodes) (c ev : Nat) : List BitField := codes.lit (257 + c) :: extraBits ev (entry lExtra c)

/-- The distance symbol `c` with extra value `ev` (second half of a match in R90). -/
def distFields (codes : BlockCodes) (c ev : Nat) : List BitField := codes.dist c :: extraBits ev (entry dExtra c)

/-- `EmitToken` (30_encoding.md R90). -/
def tokenFields (codes : BlockCodes) : Token → List BitField
  | .lit b => [codes.lit b.toNat]
  | .ref d l =>
    lenFields codes (lenCode l) (l - entry lBase (lenCode l)) ++
    distFields codes (distCode d) (d - entry dBase (distCode d))

/-- `EmitEOB` (30_encoding.md R90). -/
def eobFields (codes : BlockCodes) : List BitField := [codes.lit Config.eob]

/-- The token a queue entry stands for (10_state.md R31). -/
def QEntry.token (e : QEntry) : Token := if e.d = 0 then .lit (.ofNat 8 e.a.toNat) else .ref e.d.toNat e.a.toNat

/-- The queue entry of a token (40_match_finder.md R126). -/
def Token.entry : Token → QEntry
  | .lit b => { a := .ofNat 9 b.toNat, d := 0 }
  | .ref d l => { a := .ofNat 9 l, d := .ofNat 16 d }

/-- How many input bytes a token covers (40_match_finder.md R125). -/
def Token.span : Token → Nat
  | .lit _ => 1
  | .ref _ l => l

/-- One code-length symbol with its extra value of `eb` bits (42_block_coordinator.md R163). -/
structure ClSym where
  sym : Nat
  ev : Nat
  eb : Nat
  deriving DecidableEq, Repr

/-- `PUT_BITS(BLCODE[sym], BLLEN[sym]); if eb > 0: PUT_BITS(ev, eb)` (30_encoding.md R96). -/
def ClSym.fields (bl : CodeTable) (c : ClSym) : List BitField := bl.field c.sym :: extraBits c.ev c.eb

end Sys2Proof.Machine
end

