-- ==== Sys2Proof/Machine/Flags.lean ====
section
/-! DEFINITION. The derived quantities and the one-bit facts of 10_state.md (R23, R27 and the table of status flags), the
enabling conditions of FILL and FIND (40_match_finder.md R121, R122), and the numbers of `PHASE`, `FCODE` and `RSTAT`. -/

namespace Sys2Proof.Machine

/-- `TOTAL_IN = |S|` (10_state.md R27). -/
def State.totalIn (s : State) : Nat := s.window.length

/-- `LA = TOTAL_IN - P` (10_state.md R27). -/
def State.la (s : State) : Nat := s.totalIn - s.p

/-- `BLK_LEN = P - BLK_START` (10_state.md R27). -/
def State.blkLen (s : State) : Nat := s.p - s.blkStart

/-- `QN` (10_state.md R31). -/
def State.qn (s : State) : Nat := s.q.length

/-- The needs-input predicate `IN_LEN = 0` (10_state.md R26). -/
def State.inputConsumed (s : State) : Bool := decide (s.inLen = 0)

/-- `FL[0]`, FLUSH (10_state.md R23, 30_encoding.md R80). -/
def flushFlag (fl : BitVec 2) : Bool := fl.getLsbD 0

/-- `FL[1]`, FINISH (10_state.md R23, 30_encoding.md R80). -/
def finishFlag (fl : BitVec 2) : Bool := fl.getLsbD 1

/-- FILL's enabling condition (40_match_finder.md R121). -/
def State.fillEnabled (s : State) : Bool :=
  decide (s.phase = .accumulating) && decide (s.inLen ≠ 0) && decide (s.la < s.params.laCap)

/-- `CanFind` (40_match_finder.md R122). -/
def State.canFind (s : State) : Bool :=
  decide (s.phase = .accumulating) && decide (1 ≤ s.la) &&
  (decide (s.params.maxMatch ≤ s.la) || (decide (s.inLen = 0) && decide (s.flags ≠ 0)))

/-- A block is being written: `PHASE = EMITTING` (10_state.md R21). -/
def State.emitting (s : State) : Bool := decide (s.phase = .emitting)

/-- The number of a `PHASE` (table of 10_state.md R21). -/
def Phase.code : Phase → Nat
  | .accumulating => 0
  | .sizing => 1
  | .emitting => 2
  | .done => 3
  | .fault => 4

/-- The number of a fault code (table of 60_exceptions.md R220). -/
def FCode.code : FCode → Nat
  | .none => 0
  | .inputPending => 1
  | .bounds => 2
  | .freqNonzero => 3
  | .limitDiverge => 4
  | .badCmd => 5
  | .finished => 6

/-- `RSTAT`: ERR in bit 0, `FCODE` in bits 7..4, `PHASE` in bits 10..8 (10_state.md R38). -/
def State.rstat (s : State) : Word := .ofNat 32 (s.rerr.toNat + 16 * s.fcode.code + 256 * s.phase.code)

end Sys2Proof.Machine
end

