-- ==== Sys2Proof/Machine/Ops.lean ====
section
/-! DEFINITION. The shared operations: memory, responses, taking a fault and the return from it (RESET), frequency tables,
and how the run of a command ends a step (10_state.md R38, R39; 20_memory.md R61; 60_exceptions.md R220 to R223). -/

namespace Sys2Proof.Machine

/-! ### Memory -/

/-- What an offset of `IBUF` reads as when the host has not written it. The spec gives no value. DESIGN CHOICE, unsafe:
log 8. -/
def Memory.unwritten : Byte := 0x00

/-- The byte at offset `a` (20_memory.md R61). -/
def Memory.read : Memory → Nat → Byte
  | [], _ => Memory.unwritten
  | c :: m, a => if c.1 = a then c.2 else Memory.read m a

/-- The canonical form of one cell: an unwritten byte is not listed. -/
def Memory.cell (a : Nat) (b : Byte) : Memory := if b = Memory.unwritten then [] else [(a, b)]

/-- Store `b` at offset `a`, keeping the canonical form. -/
def Memory.write : Memory → Nat → Byte → Memory
  | [], a, b => Memory.cell a b
  | c :: m, a, b =>
    if c.1 < a then c :: Memory.write m a b
    else if c.1 = a then Memory.cell a b ++ m
    else Memory.cell a b ++ c :: m

/-- The canonical form: offsets strictly rising and 32-bit, no cell equal to an unwritten byte. -/
abbrev Memory.wf (m : Memory) : Prop :=
  m.Pairwise (fun x y => x.1 < y.1) ∧ ∀ c ∈ m, c.2 ≠ Memory.unwritten ∧ c.1 < 2 ^ 32

/-- `MemRead(a, 1)` (00_scope.md R14, 20_memory.md R61). -/
def State.memRead (s : State) (a : Word) : Byte := s.ibuf.read a.toNat

/-! ### Responses -/

/-- Respond `OK(v)` (30_encoding.md R81, 10_state.md R38). -/
def respondOk (v : Word) (s : State) : State := { s with rerr := false, rval := v }

/-- Respond `ERR(code)` (30_encoding.md R81, 10_state.md R38). -/
def respondErr (code : FCode) (s : State) : State := { s with rerr := true, rval := .ofNat 32 code.code }

/-! ### Taking a fault and leaving it -/

/-- `raise Fault(code, info)` (60_exceptions.md R221). -/
def raiseFault (code : FCode) (info : Word) (s : State) : State :=
  respondErr code { s with phase := .fault, fcode := code, finfo := info }

/-- The state an internal fault leaves (60_exceptions.md R221 (b), 93_implementation_defined.md U3): `OUT`, `BITPOS`,
`TOTAL_IN`, the host's registers and memory and the parameters as they are; everything else a free value. The command is abandoned (00_scope.md R15), so nothing is left to send. Log 9. -/
def unspecifiedState (s : State) : State :=
  { s with
    flags := Config.freeFlags s.free
    progress := Config.freeProgress s.free
    inOff := Config.freeWord s.free 0
    inLen := Config.freeWord s.free 1
    cksum := Config.freeWord s.free 2
    p := (Config.freePos s.free 0).toNat
    blkStart := (Config.freePos s.free 1).toNat
    window := (List.range s.totalIn).map (Config.freeWindow s.free)
    lfreq := (List.range Config.lCodes).map (Config.freeCount s.free 0)
    dfreq := (List.range Config.dCodes).map (Config.freeCount s.free 1)
    blfreq := (List.range Config.blCodes).map (Config.freeCount s.free 2)
    q := (List.range (min (Config.freeQueueLength s.free) s.params.qcap)).map fun i =>
      { a := (Config.freeQueueEntry s.free i).1, d := (Config.freeQueueEntry s.free i).2 }
    ser := { s.ser with acc := Config.freeAcc s.free, nb := Config.freeNb s.free }
    emission := []
    free := s.free + 1 }

/-- An internal fault, code 3 or 4, taken in the middle of a STEP (60_exceptions.md R221 (b)). -/
def raiseInternalFault (code : FCode) (info : Word) (s : State) : State := raiseFault code info (unspecifiedState s)

/-- Power-on reset (10_state.md R39, 70_reset_and_hazards.md R250): the whole core at its reset values. The host's memory
and pending actions and the instance's parameters are not the core's to reset. Log 15. -/
def powerOnReset (s : State) : State :=
  { State.reset with params := s.params, script := s.script, ibuf := s.ibuf, busData := s.busData, free := s.free }

/-- What RESET resets (44_host_commands.md R201): as power-on, but `IBUF_SIZE`, `ARG_OFF` and `ARG_LEN` stay. -/
def commandReset (s : State) : State :=
  { powerOnReset s with ibufSize := s.ibufSize, argOff := s.argOff, argLen := s.argLen }

/-- Step 2 of the preamble of every command but RESET: in `FAULT` respond `ERR(FCODE)`, nothing else changes
(44_host_commands.md R200, 60_exceptions.md R222). -/
def unlessFaulted (s : State) (k : Host.Outcome State Fault Refusal) : Host.Outcome State Fault Refusal :=
  if s.phase = .fault then .next (respondErr s.fcode s) else k

/-! ### How the run of a command ends -/

/-- Why a micro-operation does not hand on a state. -/
inductive Stop where
  /-- `raise Fault(code, info)` of an internal fault in state `at` (60_exceptions.md R221 (b)). -/
  | trap (code : FCode) (info : Word) (at_ : State)
  /-- A micro-operation's requirement does not hold. -/
  | stuck (f : Fault)
  /-- The situation is outside the spec. -/
  | refuse (r : Refusal)

/-- The outcome of a step whose micro-operations ended so. -/
def finish : Except Stop State → Host.Outcome State Fault Refusal
  | .ok s => .next s
  | .error (.trap code info s) => .next (raiseInternalFault code info s)
  | .error (.stuck f) => .fault f
  | .error (.refuse r) => .refused r

/-- A refusal of the serializer, as the stop of a micro-operation. -/
def liftRefusal {α : Type} : Except Refusal α → Except Stop α
  | .ok a => .ok a
  | .error r => .error (.refuse r)

/-! ### Frequency tables -/

/-- `t[i] <- t[i] + 1` (10_state.md R30). -/
def bump (t : List Word) (i : Nat) : List Word := t.modify i (· + 1)

/-- A frequency table as numbers. -/
def counts (t : List Word) : List Nat := t.map BitVec.toNat

/-- `Σ` of a list of numbers. -/
def total (l : List Nat) : Nat := l.foldl (· + ·) 0

end Sys2Proof.Machine
end

