-- ==== Sys2Proof/Machine/BitSerializer.lean ====
section
/-! DEFINITION. The Bit Serializer: PUT_BITS, ALIGN, PUT_BYTES (43_bit_serializer.md R190 to R192), with the preconditions
of 93_implementation_defined.md U5 and the bound of U11. -/

namespace Sys2Proof.Machine

/-- The `k` whole bytes at the low end of `t`, the oldest first: the `while` loop of R190. -/
def wholeBytes : Nat → Nat → List Byte
  | 0, _ => []
  | k + 1, t => .ofNat 8 (t % 256) :: wholeBytes k (t / 256)

/-- `PUT_BITS(v, n)` within its preconditions (43_bit_serializer.md R190): `t = ACC + v * 2^NB`, `m = NB + n`. -/
def Serializer.push (z : Serializer) (f : BitField) : Serializer :=
  let t := z.acc.toNat + f.v * 2 ^ z.nb.toNat
  let m := z.nb.toNat + f.n
  { acc := .ofNat 7 (t / 256 ^ (m / 8))
    nb := .ofNat 3 (m % 8)
    bitpos := z.bitpos + f.n
    out := z.out ++ wholeBytes (m / 8) t }

/-- The operands `PUT_BITS` admits: `n <= 16` and `v < 2^n` (43_bit_serializer.md R190, U5). -/
def BitField.fits (f : BitField) : Bool := decide (f.n ≤ 16) && decide (f.v < 2 ^ f.n)

/-- `PUT_BITS(v, n)` (43_bit_serializer.md R190), refused outside its preconditions (U5) and where `BITPOS` would wrap
(U11). Logs 10 and 11. -/
def putBits (f : BitField) (z : Serializer) : Except Refusal Serializer :=
  if f.fits then
    if z.bitpos + f.n < Config.maxBitpos then .ok (z.push f) else .error .streamTooLong
  else .error .serializerPrecondition

/-- `PUT_BITS` of each field in order. -/
def putFields : List BitField → Serializer → Except Refusal Serializer
  | [], z => .ok z
  | f :: fs, z => (putBits f z).bind (putFields fs)

/-- `ALIGN()` (43_bit_serializer.md R191): zero bits up to the next byte boundary. -/
def align (z : Serializer) : Except Refusal Serializer :=
  if z.nb = 0 then .ok z else putBits { v := 0, n := 8 - z.nb.toNat } z

/-- `PUT_BYTES(seq)` (43_bit_serializer.md R192), refused where `NB != 0` (U5) and where `BITPOS` would wrap (U11). -/
def putBytes (seq : List Byte) (z : Serializer) : Except Refusal Serializer :=
  if z.nb = 0 then
    if z.bitpos + 8 * seq.length < Config.maxBitpos then
      .ok { z with out := z.out ++ seq, bitpos := z.bitpos + 8 * seq.length }
    else .error .streamTooLong
  else .error .serializerPrecondition

end Sys2Proof.Machine
end

