-- ==== Sys2Proof/Machine/MatchFinder.lean ====
section
/-! DEFINITION. The Match Finder: FILL, FIND, ADVANCE and the recording half of TALLY (40_match_finder.md R121 to R126). -/

namespace Sys2Proof.Machine

/-- How many bytes FILL consumes: `min(IN_LEN, LA_CAP - LA)` (R121). -/
def State.fillCount (s : State) : Nat := min s.inLen.toNat (s.params.laCap - s.la)

/-- The next `n` bytes of the input range, in ascending order (R121). -/
def State.inputBytes (s : State) (n : Nat) : List Byte := (List.range n).map fun i => s.memRead (s.inOff + .ofNat 32 i)

/-- `FILL()` where it is enabled (R121), refused where `TOTAL_IN` would leave the spec's range (U11). Log 10. -/
def fill (s : State) : Except Stop State :=
  let bytes := s.inputBytes s.fillCount
  if s.totalIn + s.fillCount < Config.maxTotalIn then
    .ok { s with
      window := s.window ++ bytes
      cksum := bytes.foldl Config.ckFold s.cksum
      inOff := s.inOff + .ofNat 32 s.fillCount
      inLen := s.inLen - .ofNat 32 s.fillCount }
  else .error (.refuse .streamTooLong)

/-- How many of the first `lim` bytes of two sequences agree before the first that differs. -/
def commonPrefix : Nat → List Byte → List Byte → Nat
  | lim + 1, a :: as, b :: bs => if a = b then commonPrefix lim as bs + 1 else 0
  | _, _, _ => 0

/-- `lim = min(LA, MAX_MATCH)` (R123). -/
def State.matchLimit (s : State) : Nat := min s.la s.params.maxMatch

/-- `mlen(d)` (R123): the source `S[P-d ..)` runs on into the bytes the match itself covers (R124). -/
def State.matchLength (s : State) (d : Nat) : Nat :=
  commonPrefix s.matchLimit (s.window.drop (s.p - d)) (s.window.drop s.p)

/-- The better of two candidates `(d, l)` where the second is nearer: longest, then nearest (R123). -/
def nearerIfAsLong (best cand : Nat × Nat) : Nat × Nat := if best.2 ≤ cand.2 then cand else best

/-- The candidates at distances `d, d-1, .., 1`: `src` is the stream from `P-d` on, `cur` from `P` on. -/
def searchDown (lim : Nat) (cur : List Byte) : Nat → List Byte → Nat × Nat → Nat × Nat
  | 0, _, best => best
  | d + 1, src, best => searchDown lim cur d src.tail (nearerIfAsLong best (d + 1, commonPrefix lim src cur))

/-- `(best_d, best_len)` over `d` in `1 .. min(P, WSIZE)`; `(0, 0)` if there is no candidate (R123). -/
def State.bestMatch (s : State) : Nat × Nat :=
  let reach := min s.p s.params.wsize
  searchDown s.matchLimit (s.window.drop s.p) reach (s.window.drop (s.p - reach)) (0, 0)

/-- `FIND() -> token` (R123). -/
def find (s : State) : Token :=
  let best := s.bestMatch
  if Config.minMatch ≤ best.2 then .ref best.1 best.2 else .lit (s.window.getD s.p 0)

/-- `ADVANCE(token)` (R125). -/
def advance (t : Token) (s : State) : State := { s with p := s.p + t.span }

/-- The tables and the queue after TALLY recorded the token (R126). -/
def record (t : Token) (s : State) : State :=
  match t with
  | .lit b => { s with lfreq := bump s.lfreq b.toNat, q := s.q ++ [t.entry] }
  | .ref d l =>
    { s with
      lfreq := bump s.lfreq (257 + lenCode l)
      dfreq := bump s.dfreq (distCode d)
      q := s.q ++ [t.entry] }

end Sys2Proof.Machine
end

