-- ==== Sys2Proof/Machine/Huffman.lean ====
section
/-! DEFINITION. The Canonical Huffman Builder: BUILD_TREE, LIMIT_LENGTHS, CANON, NUMCODES, ENCLEN and BUILD_CODE
(41_huffman_builder.md R140 to R151), pure functions of their arguments. -/

namespace Sys2Proof.Machine

/-- The ephemeral Huffman tree (10_state.md R36). -/
inductive HTree where
  | leaf (s : Nat)
  | node (a b : HTree)
  deriving DecidableEq, Repr

/-- A node of the priority structure `H`: its weight `f`, its sequence number `seq`, its tree (R141). -/
structure HNode where
  f : Nat
  seq : Nat
  tree : HTree
  deriving DecidableEq, Repr

/-- The key order of `H`: `f` first, then `seq` (R141). -/
def HNode.before (a b : HNode) : Bool := decide (a.f < b.f) || (decide (a.f = b.f) && decide (a.seq < b.seq))

/-- `H` is held in key order; insert a node at its place. -/
def insertNode (x : HNode) : List HNode → List HNode
  | [] => [x]
  | y :: ys => if x.before y then x :: y :: ys else y :: insertNode x ys

/-- The symbols with nonzero frequency, ascending, from symbol `s` on. -/
def leavesFrom : Nat → List Nat → List Nat
  | _, [] => []
  | s, f :: fs => if f = 0 then leavesFrom (s + 1) fs else s :: leavesFrom (s + 1) fs

/-- `leaves` (R141). -/
def leaves (freq : List Nat) : List Nat := leavesFrom 0 freq

/-- The leaves as nodes, in key order (R141). -/
def leafNodes (freq : List Nat) : List HNode :=
  (leaves freq).foldl (fun h s => insertNode { f := entry freq s, seq := s, tree := .leaf s } h) []

/-- The merge loop: take the two least nodes `a`, `b`, insert their combination with `seq` and count `seq` up; until one
node remains. `fuel` bounds the merges (R141). -/
def mergeNodes : Nat → Nat → List HNode → List HNode
  | fuel + 1, seq, a :: b :: h =>
    mergeNodes fuel (seq + 1) (insertNode { f := a.f + b.f, seq := seq, tree := .node a.tree b.tree } h)
  | _, _, h => h

/-- Each leaf's symbol with its depth below `d` (R141). -/
def HTree.depths : HTree → Nat → List (Nat × Nat)
  | .leaf s, d => [(s, d)]
  | .node a b, d => a.depths (d + 1) ++ b.depths (d + 1)

/-- The table of `n` entries with the listed values, 0 elsewhere. -/
def tableOf (n : Nat) (pairs : List (Nat × Nat)) : List Nat :=
  pairs.foldl (fun t x => t.set x.1 x.2) (List.replicate n 0)

/-- `BUILD_TREE(freq) -> depth` (R141, R142). -/
def buildTree (freq : List Nat) : List Nat :=
  match leaves freq with
  | [] => List.replicate freq.length 0
  | [s] => tableOf freq.length [(s, 1)]
  | _ =>
    match mergeNodes freq.length freq.length (leafNodes freq) with
    | root :: _ => tableOf freq.length (root.tree.depths 0)
    | [] => List.replicate freq.length 0

/-- `CNT[1..cap]` before redistribution, `CNT[l]` at index `l - 1`: leaves clamped into bucket `cap` (R144). -/
def bucketCounts (freq depth : List Nat) (cap : Nat) : List Nat :=
  (leaves freq).foldl (fun cnt s => cnt.modify (min (entry depth s) cap - 1) (· + 1)) (List.replicate cap 0)

/-- `Σ_{l=1..cap} CNT[l] * 2^(cap-l)`, the code space the buckets take in units of `2^-cap` (R144). -/
def codeSpace : List Nat → Nat
  | [] => 0
  | c :: cs => c * 2 ^ cs.length + codeSpace cs

/-- `overflow`, signed (R144). -/
def overflowOf (cnt : List Nat) (cap : Nat) : Int := (codeSpace cnt : Int) - 2 ^ cap

/-- The largest `l` in `1 .. k` with `CNT[l] > 0` (R145). -/
def deepestBucket (cnt : List Nat) : Nat → Option Nat
  | 0 => none
  | k + 1 => if 0 < entry cnt k then some (k + 1) else deepestBucket cnt k

/-- Move one leaf from bucket `b` to bucket `b + 1` (R145). -/
def moveDeeper (cnt : List Nat) (b : Nat) : List Nat := (cnt.modify (b - 1) (· - 1)).modify b (· + 1)

/-- The redistribution loop (R145). `guard` is how many iterations it still allows; it starts at `n * cap`, and `none` is
the fault `F_LIMIT_DIVERGE` with information 0 (R151). -/
def redistribute (cap : Nat) : Nat → List Nat → Int → Option (List Nat × Int)
  | guard, cnt, overflow =>
    if overflow ≤ 0 then some (cnt, overflow)
    else match guard, deepestBucket cnt (cap - 1) with
      | guard + 1, some b => redistribute cap guard (moveDeeper cnt b) (overflow - 2 ^ (cap - 1 - b))
      | _, _ => none

/-- The overshoot repair (R145): give `|overflow|` leaves of bucket `cap` to bucket `cap - 1`; `none` where bucket `cap`
would go negative, `F_LIMIT_DIVERGE` with information 1. -/
def repairOvershoot (cap : Nat) (cnt : List Nat) (overflow : Int) : Option (List Nat) :=
  if overflow < 0 then
    let k := overflow.natAbs
    if entry cnt (cap - 1) < k then none
    else some ((cnt.modify (cap - 1) (· - k)).modify (cap - 2) (· + k))
  else some cnt

/-- The reassignment order: depth ascending, frequency descending, symbol ascending (R145). -/
def assignBefore (freq depth : List Nat) (s t : Nat) : Bool :=
  decide (entry depth s < entry depth t) ||
  (decide (entry depth s = entry depth t) &&
    (decide (entry freq t < entry freq s) || (decide (entry freq s = entry freq t) && decide (s < t))))

/-- Insert a symbol at its place in the reassignment order. -/
def insertSymbol (freq depth : List Nat) (s : Nat) : List Nat → List Nat
  | [] => [s]
  | t :: ts => if assignBefore freq depth s t then s :: t :: ts else t :: insertSymbol freq depth s ts

/-- `order` (R145). -/
def assignOrder (freq depth : List Nat) : List Nat :=
  (leaves freq).foldl (fun o s => insertSymbol freq depth s o) []

/-- The lengths the buckets hand out, `CNT[l]` times `l` for each `l` from `l` on (R145). -/
def bucketLengths : Nat → List Nat → List Nat
  | _, [] => []
  | l, c :: cs => List.replicate c l ++ bucketLengths (l + 1) cs

/-- `LIMIT_LENGTHS(freq, depth, cap) -> len` (R144, R145); the error is the information word of `F_LIMIT_DIVERGE`. -/
def limitLengths (freq depth : List Nat) (cap : Nat) : Except Word (List Nat) :=
  if depth.all (fun d => decide (d ≤ cap)) then .ok depth
  else
    let cnt := bucketCounts freq depth cap
    match redistribute cap (freq.length * cap) cnt (overflowOf cnt cap) with
    | none => .error 0
    | some (cnt, overflow) =>
      match repairOvershoot cap cnt overflow with
      | none => .error 1
      | some cnt => .ok (tableOf freq.length ((assignOrder freq depth).zip (bucketLengths 1 cnt)))

/-- `COUNT[0..cap]` with `COUNT[0] = 0` (R146). -/
def lengthCounts (len : List Nat) (cap : Nat) : List Nat :=
  (len.foldl (fun cnt l => cnt.modify l (· + 1)) (List.replicate (cap + 1) 0)).set 0 0

/-- `NEXT[l]`, `NEXT[l+1]`, ... from the code `c` of the length before and the counts from there on (R146). -/
def firstCodes : Nat → List Nat → List Nat
  | _, [] => []
  | c, k :: ks => (c + k) * 2 :: firstCodes ((c + k) * 2) ks

/-- `msb[s]` for the symbols in order, with `NEXT[l]` at index `l - 1` (R146). -/
def assignCodes : List Nat → List Nat → List Nat
  | _, [] => []
  | next, l :: ls =>
    if l = 0 then 0 :: assignCodes next ls
    else entry next (l - 1) :: assignCodes (next.modify (l - 1) (· + 1)) ls

/-- The MSB-first codes of CANON (R146). -/
def canonMsb (len : List Nat) (cap : Nat) : List Nat :=
  assignCodes (firstCodes 0 ((lengthCounts len cap).take cap)) len

/-- `CANON(len, cap) -> code`, bit-reversed (R146, R147). -/
def canon (len : List Nat) (cap : Nat) : List Nat := (canonMsb len cap).zipWith bitrev len

/-- `1 + max{ s | len[s] > 0 }`, 0 if there is none, over the entries from symbol `s` on (R148). -/
def usedUpTo : Nat → List Nat → Nat
  | _, [] => 0
  | s, l :: ls => max (if 0 < l then s + 1 else 0) (usedUpTo (s + 1) ls)

/-- `NUMCODES(len, min_codes)` (R148). -/
def numCodes (len : List Nat) (minCodes : Nat) : Nat := max minCodes (usedUpTo 0 len)

/-- `ENCLEN(freq, len)` (R149). -/
def encLen (freq len : List Nat) : Nat := total (freq.zipWith (· * ·) len)

/-- What BUILD_CODE returns (R140). -/
structure Built where
  table : CodeTable
  num : Nat
  enclen : Nat
  deriving DecidableEq, Repr

/-- `BUILD_CODE(freq, min_codes, cap)` (R140). -/
def buildCode (freq : List Nat) (minCodes cap : Nat) : Except Word Built :=
  match limitLengths freq (buildTree freq) cap with
  | .error info => .error info
  | .ok len =>
    .ok { table := { len := len, code := canon len cap }, num := numCodes len minCodes, enclen := encLen freq len }

end Sys2Proof.Machine
end

