-- ==== Sys2Proof/Machine/BlockCoordinator.lean ====
section
/-! DEFINITION. The Block Coordinator: RLE, sizing, COST, HCLEN, SELECT, the three EMIT operations, RESET_BLOCK,
CLOSE_BLOCK and TALLY (42_block_coordinator.md R160 to R176, 40_match_finder.md R126). -/

namespace Sys2Proof.Machine

/-! ### RLE -/

/-- A plain code-length symbol, no extra bits. -/
def plainCl (v : Nat) : ClSym := { sym := v, ev := 0, eb := 0 }

/-- A run of `run` zero lengths (R163). `fuel` bounds the pieces; `run` is enough. -/
def zeroRun : Nat → Nat → List ClSym
  | fuel + 1, run =>
    if 11 ≤ run then { sym := 18, ev := min run 138 - 11, eb := 7 } :: zeroRun fuel (run - min run 138)
    else if 3 ≤ run then [{ sym := 17, ev := run - 3, eb := 3 }]
    else List.replicate run (plainCl 0)
  | 0, _ => []

/-- `run` further copies of the nonzero length `v` after the first (R163). `fuel` bounds the pieces; `run` is enough. -/
def repeatRun (v : Nat) : Nat → Nat → List ClSym
  | fuel + 1, run =>
    if 3 ≤ run then { sym := 16, ev := min run 6 - 3, eb := 2 } :: repeatRun v fuel (run - min run 6)
    else List.replicate run (plainCl v)
  | 0, _ => []

/-- The symbols of one maximal run of `run` lengths `v` (R163). -/
def runSymbols (v run : Nat) : List ClSym :=
  if v = 0 then zeroRun run run else plainCl v :: repeatRun v (run - 1) (run - 1)

/-- The maximal runs of a sequence, as (value, length) pairs (R163). -/
def maximalRuns : List Nat → List (Nat × Nat)
  | [] => []
  | v :: vs =>
    match maximalRuns vs with
    | [] => [(v, 1)]
    | (w, n) :: rest => if v = w then (w, n + 1) :: rest else (v, 1) :: (w, n) :: rest

/-- `RLE(seq)` (R163). -/
def rle (seq : List Nat) : List ClSym := (maximalRuns seq).flatMap fun r => runSymbols r.1 r.2

/-! ### Sizing -/

/-- `HCLEN` (R165): the position after the last nonzero entry of `BLLEN` in `BL_ORDER`, at least 4. -/
def hclenOf (bllen : List Nat) : Nat := numCodes (blOrder.map (entry bllen)) 4

/-- What lines 3 to 8 of CLOSE_BLOCK compute: the three codes, the symbol sequence and `HCLEN` (R160, 10_state.md R32).
Local to the block (log 3). -/
structure Sizing where
  /-- `LLEN`, `LCODE`, `HLIT`, `LENC`. -/
  l : Built
  /-- `DLEN`, `DCODE`, `HDIST`, `DENC`. -/
  d : Built
  /-- `SEQ`. -/
  seq : List ClSym
  /-- `BLFREQ` after line 6. -/
  blfreq : List Word
  /-- `BLLEN`, `BLCODE`, `BLENC`. -/
  bl : Built
  /-- `HCLEN`. -/
  hclen : Nat
  deriving DecidableEq, Repr

/-- `SEQ = RLE(LLEN[0..HLIT)) ++ RLE(DLEN[0..HDIST))` (R160 line 5). -/
def lengthSequence (l d : Built) : List ClSym := rle (l.table.len.take l.num) ++ rle (d.table.len.take d.num)

/-- Line 6 of CLOSE_BLOCK: one count per symbol of the sequence (R160). -/
def tallySequence (seq : List ClSym) (blfreq : List Word) : List Word := seq.foldl (fun t c => bump t c.sym) blfreq

/-- Lines 3 to 8 of CLOSE_BLOCK over the frequency tables as line 2 left them; `blOf` gives `BLFREQ` as line 6 leaves it
(R160). -/
def sizeBlock (lfreq dfreq : List Word) (blOf : List ClSym → List Word) : Except Word Sizing :=
  (buildCode (counts lfreq) 257 Config.maxBits).bind fun l =>
  (buildCode (counts dfreq) 1 Config.maxBits).bind fun d =>
  let seq := lengthSequence l d
  (buildCode (counts (blOf seq)) 4 Config.maxBlBits).bind fun bl =>
  .ok { l := l, d := d, seq := seq, blfreq := blOf seq, bl := bl, hclen := hclenOf bl.table.len }

/-- Line 2 of CLOSE_BLOCK: the end-of-block marker is counted once (R160, R161). -/
def tallyEob (lfreq : List Word) : List Word := bump lfreq Config.eob

/-- The sizing of the current block. While a block is being sized or emitted its tables stand as lines 2 and 6 left them;
otherwise lines 2 to 8 are computed over the tables as they stand, which changes nothing in the state. Log 3. -/
def State.sizing (s : State) : Except Word Sizing :=
  if s.phase = .sizing ∨ s.phase = .emitting then sizeBlock s.lfreq s.dfreq fun _ => s.blfreq
  else sizeBlock (tallyEob s.lfreq) s.dfreq fun seq => tallySequence seq s.blfreq

/-! ### COST and SELECT -/

/-- The three estimates in bits; `stored` is absent where stored is not eligible (R164). -/
structure Costs where
  stored : Option Nat
  fixed : Nat
  dynamic : Nat
  deriving DecidableEq, Repr

/-- `EXTRA` (R164). -/
def extraCost (lfreq dfreq : List Nat) : Nat :=
  total ((lfreq.drop 257).zipWith (· * ·) lExtra) + total (dfreq.zipWith (· * ·) dExtra)

/-- `Σ LFREQ[s] * SLLEN[s]` over the symbols from `s` on (R164). -/
def staticLitCost : Nat → List Nat → Nat
  | _, [] => 0
  | s, f :: fs => f * (staticLit s).n + staticLitCost (s + 1) fs

/-- The estimates (R164); `lfreq` counts the end-of-block marker already. -/
def costsOf (lfreq dfreq : List Nat) (z : Sizing) (blkLen : Nat) : Costs :=
  let extra := extraCost lfreq dfreq
  let blfreq := counts z.blfreq
  { stored := if blkLen ≤ Config.storedMax then some (8 * blkLen + 40) else none
    fixed := 3 + staticLitCost 0 lfreq + 5 * total dfreq + extra
    dynamic := 3 + 5 + 5 + 4 + 3 * z.hclen + z.bl.enclen +
      (2 * entry blfreq 16 + 3 * entry blfreq 17 + 7 * entry blfreq 18) + z.l.enclen + z.d.enclen + extra }

/-- The three block encodings (30_encoding.md R85). -/
inductive BlockKind where
  | stored
  | fixed
  | dynamic
  deriving DecidableEq, Repr

/-- `BTYPE` (30_encoding.md R85). -/
def BlockKind.btype : BlockKind → Nat
  | .stored => 0
  | .fixed => 1
  | .dynamic => 2

/-- Stored is eligible and strictly cheaper than both others (R166). -/
def Costs.storedCheapest (c : Costs) : Bool :=
  match c.stored with
  | some b => decide (b < c.fixed) && decide (b < c.dynamic)
  | none => false

/-- `SELECT` (R166). -/
def select (c : Costs) : BlockKind :=
  if c.storedCheapest then .stored else if c.fixed ≤ c.dynamic then .fixed else .dynamic

/-- `LFREQ` as it is sized: with the end-of-block marker counted (R161). -/
def State.sizedLfreq (s : State) : List Word :=
  if s.phase = .sizing ∨ s.phase = .emitting then s.lfreq else tallyEob s.lfreq

/-- The encoding SELECT takes for the current block with sizing `z` (R160 lines 9 and 10). -/
def State.choice (s : State) (z : Sizing) : BlockKind :=
  select (costsOf (counts s.sizedLfreq) (counts s.dfreq) z s.blkLen)

/-- The block's own codes. -/
def Sizing.codes (z : Sizing) : BlockCodes := .built z.l.table z.d.table

/-- The codes the current block's symbols are sent with: its own if SELECT takes the dynamic encoding, else the static
ones (R160 line 12, R171, R172). Log 3. -/
def State.blockCodes (s : State) (z : Sizing) : BlockCodes := if s.choice z = .dynamic then z.codes else .fixed

/-! ### EMIT -/

/-- `PUT_BITS(final + 2*BTYPE, 3)` (30_encoding.md R85). -/
def headerField (kind : BlockKind) (final : Bool) : BitField := { v := final.toNat + 2 * kind.btype, n := 3 }

/-- The queue's tokens in order (10_state.md R31). -/
def State.queueFields (s : State) (codes : BlockCodes) : List BitField := s.q.flatMap fun e => tokenFields codes e.token

/-- `S[BLK_START .. P)` (R170). -/
def State.blockBytes (s : State) : List Byte := (s.window.drop s.blkStart).take s.blkLen

/-- `EMIT_STORED(final)` (R170, 30_encoding.md R92). -/
def emitStored (final : Bool) (s : State) : Except Refusal Serializer :=
  (putBits (headerField .stored final) s.ser).bind fun z =>
  (align z).bind fun z =>
  (putFields [{ v := s.blkLen, n := 16 }, { v := 65535 - s.blkLen, n := 16 }] z).bind fun z =>
  putBytes s.blockBytes z

/-- The fields of a static block (R171, 30_encoding.md R95). -/
def State.staticFields (s : State) (final : Bool) : List BitField :=
  headerField .fixed final :: s.queueFields .fixed ++ eobFields .fixed

/-- `EMIT_STATIC(final)` (R171). -/
def emitStatic (final : Bool) (s : State) : Except Refusal Serializer := putFields (s.staticFields final) s.ser

/-- The fields of a dynamic block's tables (R172, 30_encoding.md R96). -/
def Sizing.tableFields (z : Sizing) : List BitField :=
  [{ v := z.l.num - 257, n := 5 }, { v := z.d.num - 1, n := 5 }, { v := z.hclen - 4, n := 4 }] ++
  (blOrder.take z.hclen).map (fun c => { v := entry z.bl.table.len c, n := 3 }) ++
  z.seq.flatMap (ClSym.fields z.bl.table)

/-- The fields of a dynamic block (R172, 30_encoding.md R96). -/
def State.dynamicFields (s : State) (final : Bool) (z : Sizing) : List BitField :=
  headerField .dynamic final :: z.tableFields ++ s.queueFields z.codes ++ eobFields z.codes

/-- `EMIT_DYNAMIC(final)` (R172). -/
def emitDynamic (final : Bool) (z : Sizing) (s : State) : Except Refusal Serializer :=
  putFields (s.dynamicFields final z) s.ser

/-- Line 12 of CLOSE_BLOCK (R160). -/
def emitBlock (kind : BlockKind) (final : Bool) (z : Sizing) (s : State) : Except Refusal Serializer :=
  match kind with
  | .stored => emitStored final s
  | .fixed => emitStatic final s
  | .dynamic => emitDynamic final z s

/-! ### CLOSE_BLOCK -/

/-- Any entry of the tables is nonzero (R176). -/
def State.freqNonzero (s : State) : Bool := (s.lfreq ++ s.dfreq ++ s.blfreq).any fun f => decide (f ≠ 0)

/-- The state after the first three lines of RESET_BLOCK (R176). -/
def State.clearedBlock (s : State) : State :=
  { s with
    lfreq := List.replicate Config.lCodes 0
    dfreq := List.replicate Config.dCodes 0
    blfreq := List.replicate Config.blCodes 0
    q := []
    blkStart := s.p }

/-- `RESET_BLOCK()` (R176) with its check, `F_FREQ_NONZERO` (60_exceptions.md R226). -/
def resetBlock (s : State) : Except Stop State :=
  if s.clearedBlock.freqNonzero then .error (.trap .freqNonzero 0 s.clearedBlock)
  else .ok { s.clearedBlock with phase := .accumulating }

/-- Lines 1 and 2 of CLOSE_BLOCK (R160). -/
def State.beginSizing (s : State) : State := { s with phase := .sizing, lfreq := tallyEob s.lfreq }

/-- Lines 6 and 11 of CLOSE_BLOCK, with what lines 3 to 8 computed (R160). -/
def State.beginEmitting (s : State) (z : Sizing) : State := { s with blfreq := z.blfreq, phase := .emitting }

/-- `CLOSE_BLOCK(final)` (R160). -/
def closeBlock (final : Bool) (s : State) : Except Stop State :=
  if s.phase = .accumulating then
    let s := s.beginSizing
    match sizeBlock s.lfreq s.dfreq fun seq => tallySequence seq s.blfreq with
    | .error info => .error (.trap .limitDiverge info s)
    | .ok z =>
      let s := s.beginEmitting z
      (liftRefusal (emitBlock (s.choice z) final z s)).bind fun ser => resetBlock { s with ser := ser }
  else .error (.stuck .closeOutsideAccumulating)

/-- The core as it enters `EMITTING` on the current block: lines 1 to 11 of CLOSE_BLOCK (R160). It stays as it is where it
is emitting already. Where no code can be built the tables stay as line 2 left them. Log 4. -/
def State.enterEmission (s : State) : State :=
  if s.emitting then s
  else match s.sizing with
    | .ok z => { s with lfreq := s.sizedLfreq }.beginEmitting z
    | .error _ => { s with lfreq := s.sizedLfreq, phase := .emitting }

/-- `TALLY(token)` (40_match_finder.md R126): record it, and close the block when the queue is full (R167 (a)). -/
def tally (t : Token) (s : State) : Except Stop State :=
  if s.qn < s.params.qcap then
    let s := record t s
    if s.qn = s.params.qcap then closeBlock false s else .ok s
  else .error (.stuck .tallyQueueFull)

end Sys2Proof.Machine
end

