-- ==== Sys2Proof/Machine/Commands.lean ====
section
/-! DEFINITION. The meanings of the command words: RESET, SET_INPUT, NEEDS_INPUT, STEP, GET_CHECKSUM and the reserved words
(44_host_commands.md R200 to R207, 30_encoding.md R82). -/

namespace Sys2Proof.Machine

/-! ### The loop of STEP -/

/-- Lines 6 to 8 of STEP: `while CanFind: t = FIND(); ADVANCE(t); TALLY(t)` (R205), and whether it moved. Each pass takes
at least one byte of lookahead, so `fuel = LA` is enough. Log 18. -/
def matchLoop : Nat → State → Except Stop (State × Bool)
  | 0, s => .ok (s, false)
  | fuel + 1, s =>
    if s.canFind then
      let t := find s
      (tally t (advance t s)).bind fun s => (matchLoop fuel s).bind fun r => .ok (r.1, true)
    else .ok (s, false)

/-- Line 5 of STEP: FILL where it is enabled (R205). -/
def fillIfEnabled (s : State) : Except Stop State := if s.fillEnabled then fill s else .ok s

/-- Lines 3 to 10 of STEP: FILL and the match loop until neither moves (R205). Each pass that moves lowers
`2 * IN_LEN + LA`, so one more than that is enough `fuel`. Log 18. -/
def quiesce : Nat → State → Except Stop State
  | 0, s => .ok s
  | fuel + 1, s =>
    (fillIfEnabled s).bind fun s1 =>
    (matchLoop s1.la s1).bind fun r =>
    if s.fillEnabled || r.2 then quiesce fuel { r.1 with progress := true } else .ok r.1

/-- Enough fuel for `quiesce`. -/
def State.stepFuel (s : State) : Nat := 2 * s.inLen.toNat + s.la + 1

/-- Lines 12 to 15 of STEP: the flush flags (R205). -/
def closeByFlags (fl : BitVec 2) (s : State) : Except Stop State :=
  if finishFlag fl then
    (closeBlock true s).bind fun s =>
    (liftRefusal (align s.ser)).bind fun ser =>
    .ok { s with ser := ser, phase := .done, progress := true }
  else if flushFlag fl && decide (0 < s.qn) then
    (closeBlock false s).bind fun s => .ok { s with progress := true }
  else .ok s

/-- Line 16 of STEP: respond `OK(PROGRESS)` (R205). -/
def respondProgress (s : State) : State := respondOk (.ofNat 32 s.progress.toNat) s

/-- Line 1 of STEP (R205). -/
def State.beginStep (s : State) (fl : BitVec 2) : State := { s with flags := fl, progress := false }

/-- Lines 2 to 16 of STEP (R205). -/
def runStep (fl : BitVec 2) (s : State) : Except Stop State :=
  if s.phase = .done then .ok (respondOk 0 s)
  else
    (quiesce s.stepFuel s).bind fun s =>
    (closeByFlags fl s).bind fun s => .ok (respondProgress s)

/-! ### The meanings -/

/-- `RESET` (44_host_commands.md R201): works in every `PHASE` (R200 line 1). -/
def execReset (s : State) : Host.Outcome State Fault Refusal := .next (respondOk 0 (commandReset s))

/-- `off + len > IBUF_SIZE`, the sum not wrapped (R202 line 3). -/
def State.rangeOutOfBounds (s : State) : Bool := decide (s.ibufSize.toNat < s.argOff.toNat + s.argLen.toNat)

/-- `SET_INPUT` (44_host_commands.md R202); the order of its checks is 60_exceptions.md R229. -/
def execSetInput (s : State) : Host.Outcome State Fault Refusal :=
  unlessFaulted s <|
    if s.phase = .done then .next (raiseFault .finished 0 s)
    else if s.inLen ≠ 0 then .next (raiseFault .inputPending s.inLen s)
    else if s.rangeOutOfBounds then .next (raiseFault .bounds s.ibufSize s)
    else .next (respondOk 0 { s with inOff := s.argOff, inLen := s.argLen })

/-- `NEEDS_INPUT` (44_host_commands.md R203). -/
def execNeedsInput (s : State) : Host.Outcome State Fault Refusal :=
  unlessFaulted s (.next (respondOk (.ofNat 32 s.inputConsumed.toNat) s))

/-- `STEP FL` (44_host_commands.md R205). -/
def execStep (fl : BitVec 2) (s : State) : Host.Outcome State Fault Refusal :=
  unlessFaulted s (finish (runStep fl (s.beginStep fl)))

/-- `GET_CHECKSUM` (44_host_commands.md R207). -/
def execGetChecksum (s : State) : Host.Outcome State Fault Refusal := unlessFaulted s (.next (respondOk s.cksum s))

/-- A reserved command word raises `Fault(F_BAD_CMD, word)` (30_encoding.md R82, 60_exceptions.md R228). -/
def execReservedCmd (w : Word) (s : State) : Host.Outcome State Fault Refusal :=
  unlessFaulted s (.next (raiseFault .badCmd w s))

end Sys2Proof.Machine
end

