-- ==== Sys2Proof/Machine/BlockRows.lean ====
section
/-! DEFINITION. The rows of format `BHDR`: each writes one block of the format its header announces (30_encoding.md R85,
R92, R95, R96; log 2), and the shared operation by which every row of an output format sends (43_bit_serializer.md R194;
logs 3 and 16). -/

namespace Sys2Proof.Machine

/-! ### Sending -/

/-- What the serializer does for one output element. Only the rules of 42_block_coordinator.md send elements
(43_bit_serializer.md R194), and they do so at line 12 of CLOSE_BLOCK, in `PHASE = EMITTING` (42_block_coordinator.md R160);
in every other phase nothing is sent and nothing changes. Log 16. -/
def sendFrom (emit : State → Except Refusal Serializer) (s : State) : Host.Outcome State Fault Refusal :=
  if s.emitting then finish ((liftRefusal (emit s)).bind fun ser => .ok { s with ser := ser }) else .next s

/-- As `sendFrom`, for an element whose code comes from the sizing of the current block; the sizing may take the internal
fault `F_LIMIT_DIVERGE` (41_huffman_builder.md R151). Log 3. -/
def sendSized (emit : Sizing → State → Except Refusal Serializer) (s : State) : Host.Outcome State Fault Refusal :=
  if s.emitting then
    match s.sizing with
    | .error info => .next (raiseInternalFault .limitDiverge info s)
    | .ok z => sendFrom (emit z) s
  else .next s

/-- Send fixed fields. -/
def sendFields (fs : List BitField) (s : State) : Host.Outcome State Fault Refusal :=
  sendFrom (fun s => putFields fs s.ser) s

/-- Send the fields of a literal, length, distance or end-of-block symbol with the current block's codes (30_encoding.md
R90). -/
def sendSymbol (fields : BlockCodes → List BitField) (s : State) : Host.Outcome State Fault Refusal :=
  sendSized (fun z s => putFields (fields (s.blockCodes z)) s.ser) s

/-- Send a code-length symbol with the current block's code-length code (30_encoding.md R96). -/
def sendCodeLength (c : ClSym) (s : State) : Host.Outcome State Fault Refusal :=
  sendSized (fun z s => putFields (c.fields z.bl.table) s.ser) s

/-! ### The meanings -/

/-- `BLOCK_STORED`: the whole stored block (42_block_coordinator.md R170). -/
def execBlockStored (s : State) : Host.Outcome State Fault Refusal := sendFrom (emitStored false) s

/-- `BLOCK_STORED_FINAL`: the whole stored block (42_block_coordinator.md R170). -/
def execBlockStoredFinal (s : State) : Host.Outcome State Fault Refusal := sendFrom (emitStored true) s

/-- `BLOCK_STATIC`: the whole static block (R171). -/
def execBlockStatic (s : State) : Host.Outcome State Fault Refusal := sendFrom (emitStatic false) s

/-- `BLOCK_STATIC_FINAL`: the whole static block (R171). -/
def execBlockStaticFinal (s : State) : Host.Outcome State Fault Refusal := sendFrom (emitStatic true) s

/-- `BLOCK_DYNAMIC`: the whole dynamic block (R172). -/
def execBlockDynamic (s : State) : Host.Outcome State Fault Refusal := sendSized (emitDynamic false) s

/-- `BLOCK_DYNAMIC_FINAL`: the whole dynamic block (R172). -/
def execBlockDynamicFinal (s : State) : Host.Outcome State Fault Refusal := sendSized (emitDynamic true) s

/-- `BLOCK_RESERVED`: never produced, no meaning (30_encoding.md R91, U10). Log 5. -/
def execBlockReserved (_bfinal : BitVec 1) (_s : State) : Host.Outcome State Fault Refusal := .refused .reservedOutput

end Sys2Proof.Machine
end

