-- ==== Sys2Proof/Machine/CodeLenRows.lean ====
section
/-! DEFINITION. The rows of format `CLSYM`: code-length symbols with their extra bits (30_encoding.md R88, R96). -/

namespace Sys2Proof.Machine

/-- `CL_0`: code-length symbol 0 and its 0 extra bits (30_encoding.md R88, R96). -/
def execCl0 (s : State) : Host.Outcome State Fault Refusal := sendCodeLength { sym := 0, ev := 0, eb := 0 } s

/-- `CL_1`: code-length symbol 1 and its 0 extra bits (30_encoding.md R88, R96). -/
def execCl1 (s : State) : Host.Outcome State Fault Refusal := sendCodeLength { sym := 1, ev := 0, eb := 0 } s

/-- `CL_2`: code-length symbol 2 and its 0 extra bits (30_encoding.md R88, R96). -/
def execCl2 (s : State) : Host.Outcome State Fault Refusal := sendCodeLength { sym := 2, ev := 0, eb := 0 } s

/-- `CL_3`: code-length symbol 3 and its 0 extra bits (30_encoding.md R88, R96). -/
def execCl3 (s : State) : Host.Outcome State Fault Refusal := sendCodeLength { sym := 3, ev := 0, eb := 0 } s

/-- `CL_4`: code-length symbol 4 and its 0 extra bits (30_encoding.md R88, R96). -/
def execCl4 (s : State) : Host.Outcome State Fault Refusal := sendCodeLength { sym := 4, ev := 0, eb := 0 } s

/-- `CL_5`: code-length symbol 5 and its 0 extra bits (30_encoding.md R88, R96). -/
def execCl5 (s : State) : Host.Outcome State Fault Refusal := sendCodeLength { sym := 5, ev := 0, eb := 0 } s

/-- `CL_6`: code-length symbol 6 and its 0 extra bits (30_encoding.md R88, R96). -/
def execCl6 (s : State) : Host.Outcome State Fault Refusal := sendCodeLength { sym := 6, ev := 0, eb := 0 } s

/-- `CL_7`: code-length symbol 7 and its 0 extra bits (30_encoding.md R88, R96). -/
def execCl7 (s : State) : Host.Outcome State Fault Refusal := sendCodeLength { sym := 7, ev := 0, eb := 0 } s

/-- `CL_8`: code-length symbol 8 and its 0 extra bits (30_encoding.md R88, R96). -/
def execCl8 (s : State) : Host.Outcome State Fault Refusal := sendCodeLength { sym := 8, ev := 0, eb := 0 } s

/-- `CL_9`: code-length symbol 9 and its 0 extra bits (30_encoding.md R88, R96). -/
def execCl9 (s : State) : Host.Outcome State Fault Refusal := sendCodeLength { sym := 9, ev := 0, eb := 0 } s

/-- `CL_10`: code-length symbol 10 and its 0 extra bits (30_encoding.md R88, R96). -/
def execCl10 (s : State) : Host.Outcome State Fault Refusal := sendCodeLength { sym := 10, ev := 0, eb := 0 } s

/-- `CL_11`: code-length symbol 11 and its 0 extra bits (30_encoding.md R88, R96). -/
def execCl11 (s : State) : Host.Outcome State Fault Refusal := sendCodeLength { sym := 11, ev := 0, eb := 0 } s

/-- `CL_12`: code-length symbol 12 and its 0 extra bits (30_encoding.md R88, R96). -/
def execCl12 (s : State) : Host.Outcome State Fault Refusal := sendCodeLength { sym := 12, ev := 0, eb := 0 } s

/-- `CL_13`: code-length symbol 13 and its 0 extra bits (30_encoding.md R88, R96). -/
def execCl13 (s : State) : Host.Outcome State Fault Refusal := sendCodeLength { sym := 13, ev := 0, eb := 0 } s

/-- `CL_14`: code-length symbol 14 and its 0 extra bits (30_encoding.md R88, R96). -/
def execCl14 (s : State) : Host.Outcome State Fault Refusal := sendCodeLength { sym := 14, ev := 0, eb := 0 } s

/-- `CL_15`: code-length symbol 15 and its 0 extra bits (30_encoding.md R88, R96). -/
def execCl15 (s : State) : Host.Outcome State Fault Refusal := sendCodeLength { sym := 15, ev := 0, eb := 0 } s

/-- `CL_16`: code-length symbol 16 and its 2 extra bits (30_encoding.md R88, R96). -/
def execCl16 (ev : BitVec 2) (s : State) : Host.Outcome State Fault Refusal :=
  sendCodeLength { sym := 16, ev := ev.toNat, eb := 2 } s

/-- `CL_17`: code-length symbol 17 and its 3 extra bits (30_encoding.md R88, R96). -/
def execCl17 (ev : BitVec 3) (s : State) : Host.Outcome State Fault Refusal :=
  sendCodeLength { sym := 17, ev := ev.toNat, eb := 3 } s

/-- `CL_18`: code-length symbol 18 and its 7 extra bits (30_encoding.md R88, R96). -/
def execCl18 (ev : BitVec 7) (s : State) : Host.Outcome State Fault Refusal :=
  sendCodeLength { sym := 18, ev := ev.toNat, eb := 7 } s

end Sys2Proof.Machine
end

