-- ==== Sys2Proof/Machine/DistRows.lean ====
section
/-! DEFINITION. The rows of format `DSYM`: distance symbols with their extra bits (30_encoding.md R87, R90, R91). -/

namespace Sys2Proof.Machine

/-- `DIST_0`: distance symbol 0 and its 0 extra bits (30_encoding.md R87, R90). -/
def execDist0 (s : State) : Host.Outcome State Fault Refusal := sendSymbol (fun codes => distFields codes 0 0) s

/-- `DIST_1`: distance symbol 1 and its 0 extra bits (30_encoding.md R87, R90). -/
def execDist1 (s : State) : Host.Outcome State Fault Refusal := sendSymbol (fun codes => distFields codes 1 0) s

/-- `DIST_2`: distance symbol 2 and its 0 extra bits (30_encoding.md R87, R90). -/
def execDist2 (s : State) : Host.Outcome State Fault Refusal := sendSymbol (fun codes => distFields codes 2 0) s

/-- `DIST_3`: distance symbol 3 and its 0 extra bits (30_encoding.md R87, R90). -/
def execDist3 (s : State) : Host.Outcome State Fault Refusal := sendSymbol (fun codes => distFields codes 3 0) s

/-- `DIST_4`: distance symbol 4 and its 1 extra bits (30_encoding.md R87, R90). -/
def execDist4 (ev : BitVec 1) (s : State) : Host.Outcome State Fault Refusal :=
  sendSymbol (fun codes => distFields codes 4 ev.toNat) s

/-- `DIST_5`: distance symbol 5 and its 1 extra bits (30_encoding.md R87, R90). -/
def execDist5 (ev : BitVec 1) (s : State) : Host.Outcome State Fault Refusal :=
  sendSymbol (fun codes => distFields codes 5 ev.toNat) s

/-- `DIST_6`: distance symbol 6 and its 2 extra bits (30_encoding.md R87, R90). -/
def execDist6 (ev : BitVec 2) (s : State) : Host.Outcome State Fault Refusal :=
  sendSymbol (fun codes => distFields codes 6 ev.toNat) s

/-- `DIST_7`: distance symbol 7 and its 2 extra bits (30_encoding.md R87, R90). -/
def execDist7 (ev : BitVec 2) (s : State) : Host.Outcome State Fault Refusal :=
  sendSymbol (fun codes => distFields codes 7 ev.toNat) s

/-- `DIST_8`: distance symbol 8 and its 3 extra bits (30_encoding.md R87, R90). -/
def execDist8 (ev : BitVec 3) (s : State) : Host.Outcome State Fault Refusal :=
  sendSymbol (fun codes => distFields codes 8 ev.toNat) s

/-- `DIST_9`: distance symbol 9 and its 3 extra bits (30_encoding.md R87, R90). -/
def execDist9 (ev : BitVec 3) (s : State) : Host.Outcome State Fault Refusal :=
  sendSymbol (fun codes => distFields codes 9 ev.toNat) s

/-- `DIST_10`: distance symbol 10 and its 4 extra bits (30_encoding.md R87, R90). -/
def execDist10 (ev : BitVec 4) (s : State) : Host.Outcome State Fault Refusal :=
  sendSymbol (fun codes => distFields codes 10 ev.toNat) s

/-- `DIST_11`: distance symbol 11 and its 4 extra bits (30_encoding.md R87, R90). -/
def execDist11 (ev : BitVec 4) (s : State) : Host.Outcome State Fault Refusal :=
  sendSymbol (fun codes => distFields codes 11 ev.toNat) s

/-- `DIST_12`: distance symbol 12 and its 5 extra bits (30_encoding.md R87, R90). -/
def execDist12 (ev : BitVec 5) (s : State) : Host.Outcome State Fault Refusal :=
  sendSymbol (fun codes => distFields codes 12 ev.toNat) s

/-- `DIST_13`: distance symbol 13 and its 5 extra bits (30_encoding.md R87, R90). -/
def execDist13 (ev : BitVec 5) (s : State) : Host.Outcome State Fault Refusal :=
  sendSymbol (fun codes => distFields codes 13 ev.toNat) s

/-- `DIST_14`: distance symbol 14 and its 6 extra bits (30_encoding.md R87, R90). -/
def execDist14 (ev : BitVec 6) (s : State) : Host.Outcome State Fault Refusal :=
  sendSymbol (fun codes => distFields codes 14 ev.toNat) s

/-- `DIST_15`: distance symbol 15 and its 6 extra bits (30_encoding.md R87, R90). -/
def execDist15 (ev : BitVec 6) (s : State) : Host.Outcome State Fault Refusal :=
  sendSymbol (fun codes => distFields codes 15 ev.toNat) s

/-- `DIST_16`: distance symbol 16 and its 7 extra bits (30_encoding.md R87, R90). -/
def execDist16 (ev : BitVec 7) (s : State) : Host.Outcome State Fault Refusal :=
  sendSymbol (fun codes => distFields codes 16 ev.toNat) s

/-- `DIST_17`: distance symbol 17 and its 7 extra bits (30_encoding.md R87, R90). -/
def execDist17 (ev : BitVec 7) (s : State) : Host.Outcome State Fault Refusal :=
  sendSymbol (fun codes => distFields codes 17 ev.toNat) s

/-- `DIST_18`: distance symbol 18 and its 8 extra bits (30_encoding.md R87, R90). -/
def execDist18 (ev : BitVec 8) (s : State) : Host.Outcome State Fault Refusal :=
  sendSymbol (fun codes => distFields codes 18 ev.toNat) s

/-- `DIST_19`: distance symbol 19 and its 8 extra bits (30_encoding.md R87, R90). -/
def execDist19 (ev : BitVec 8) (s : State) : Host.Outcome State Fault Refusal :=
  sendSymbol (fun codes => distFields codes 19 ev.toNat) s

/-- `DIST_20`: distance symbol 20 and its 9 extra bits (30_encoding.md R87, R90). -/
def execDist20 (ev : BitVec 9) (s : State) : Host.Outcome State Fault Refusal :=
  sendSymbol (fun codes => distFields codes 20 ev.toNat) s

/-- `DIST_21`: distance symbol 21 and its 9 extra bits (30_encoding.md R87, R90). -/
def execDist21 (ev : BitVec 9) (s : State) : Host.Outcome State Fault Refusal :=
  sendSymbol (fun codes => distFields codes 21 ev.toNat) s

/-- `DIST_22`: distance symbol 22 and its 10 extra bits (30_encoding.md R87, R90). -/
def execDist22 (ev : BitVec 10) (s : State) : Host.Outcome State Fault Refusal :=
  sendSymbol (fun codes => distFields codes 22 ev.toNat) s

/-- `DIST_23`: distance symbol 23 and its 10 extra bits (30_encoding.md R87, R90). -/
def execDist23 (ev : BitVec 10) (s : State) : Host.Outcome State Fault Refusal :=
  sendSymbol (fun codes => distFields codes 23 ev.toNat) s

/-- `DIST_24`: distance symbol 24 and its 11 extra bits (30_encoding.md R87, R90). -/
def execDist24 (ev : BitVec 11) (s : State) : Host.Outcome State Fault Refusal :=
  sendSymbol (fun codes => distFields codes 24 ev.toNat) s

/-- `DIST_25`: distance symbol 25 and its 11 extra bits (30_encoding.md R87, R90). -/
def execDist25 (ev : BitVec 11) (s : State) : Host.Outcome State Fault Refusal :=
  sendSymbol (fun codes => distFields codes 25 ev.toNat) s

/-- `DIST_26`: distance symbol 26 and its 12 extra bits (30_encoding.md R87, R90). -/
def execDist26 (ev : BitVec 12) (s : State) : Host.Outcome State Fault Refusal :=
  sendSymbol (fun codes => distFields codes 26 ev.toNat) s

/-- `DIST_27`: distance symbol 27 and its 12 extra bits (30_encoding.md R87, R90). -/
def execDist27 (ev : BitVec 12) (s : State) : Host.Outcome State Fault Refusal :=
  sendSymbol (fun codes => distFields codes 27 ev.toNat) s

/-- `DIST_28`: distance symbol 28 and its 13 extra bits (30_encoding.md R87, R90). -/
def execDist28 (ev : BitVec 13) (s : State) : Host.Outcome State Fault Refusal :=
  sendSymbol (fun codes => distFields codes 28 ev.toNat) s

/-- `DIST_29`: distance symbol 29 and its 13 extra bits (30_encoding.md R87, R90). -/
def execDist29 (ev : BitVec 13) (s : State) : Host.Outcome State Fault Refusal :=
  sendSymbol (fun codes => distFields codes 29 ev.toNat) s

/-- `DIST_RESERVED`: never produced, no meaning (30_encoding.md R91, U10). Log 5. -/
def execDistReserved (_x : BitVec 1) (_s : State) : Host.Outcome State Fault Refusal := .refused .reservedOutput

end Sys2Proof.Machine
end

