-- ==== Sys2Proof/Machine/LitLenRows.lean ====
section
/-! DEFINITION. The rows of format `LLSYM`: literal/length symbols with their extra bits (30_encoding.md R86, R90, R91). -/

namespace Sys2Proof.Machine

/-- `LIT`: `EmitToken(Lit(b))` (30_encoding.md R90). -/
def execLit (b : Byte) (s : State) : Host.Outcome State Fault Refusal :=
  sendSymbol (fun codes => tokenFields codes (.lit b)) s

/-- `EOB`: `EmitEOB()` (30_encoding.md R90). -/
def execEob (s : State) : Host.Outcome State Fault Refusal := sendSymbol eobFields s

/-- `LEN_257`: length symbol 257 and its 0 extra bits (30_encoding.md R86, R90). -/
def execLen257 (s : State) : Host.Outcome State Fault Refusal := sendSymbol (fun codes => lenFields codes 0 0) s

/-- `LEN_258`: length symbol 258 and its 0 extra bits (30_encoding.md R86, R90). -/
def execLen258 (s : State) : Host.Outcome State Fault Refusal := sendSymbol (fun codes => lenFields codes 1 0) s

/-- `LEN_259`: length symbol 259 and its 0 extra bits (30_encoding.md R86, R90). -/
def execLen259 (s : State) : Host.Outcome State Fault Refusal := sendSymbol (fun codes => lenFields codes 2 0) s

/-- `LEN_260`: length symbol 260 and its 0 extra bits (30_encoding.md R86, R90). -/
def execLen260 (s : State) : Host.Outcome State Fault Refusal := sendSymbol (fun codes => lenFields codes 3 0) s

/-- `LEN_261`: length symbol 261 and its 0 extra bits (30_encoding.md R86, R90). -/
def execLen261 (s : State) : Host.Outcome State Fault Refusal := sendSymbol (fun codes => lenFields codes 4 0) s

/-- `LEN_262`: length symbol 262 and its 0 extra bits (30_encoding.md R86, R90). -/
def execLen262 (s : State) : Host.Outcome State Fault Refusal := sendSymbol (fun codes => lenFields codes 5 0) s

/-- `LEN_263`: length symbol 263 and its 0 extra bits (30_encoding.md R86, R90). -/
def execLen263 (s : State) : Host.Outcome State Fault Refusal := sendSymbol (fun codes => lenFields codes 6 0) s

/-- `LEN_264`: length symbol 264 and its 0 extra bits (30_encoding.md R86, R90). -/
def execLen264 (s : State) : Host.Outcome State Fault Refusal := sendSymbol (fun codes => lenFields codes 7 0) s

/-- `LEN_265`: length symbol 265 and its 1 extra bits (30_encoding.md R86, R90). -/
def execLen265 (ev : BitVec 1) (s : State) : Host.Outcome State Fault Refusal :=
  sendSymbol (fun codes => lenFields codes 8 ev.toNat) s

/-- `LEN_266`: length symbol 266 and its 1 extra bits (30_encoding.md R86, R90). -/
def execLen266 (ev : BitVec 1) (s : State) : Host.Outcome State Fault Refusal :=
  sendSymbol (fun codes => lenFields codes 9 ev.toNat) s

/-- `LEN_267`: length symbol 267 and its 1 extra bits (30_encoding.md R86, R90). -/
def execLen267 (ev : BitVec 1) (s : State) : Host.Outcome State Fault Refusal :=
  sendSymbol (fun codes => lenFields codes 10 ev.toNat) s

/-- `LEN_268`: length symbol 268 and its 1 extra bits (30_encoding.md R86, R90). -/
def execLen268 (ev : BitVec 1) (s : State) : Host.Outcome State Fault Refusal :=
  sendSymbol (fun codes => lenFields codes 11 ev.toNat) s

/-- `LEN_269`: length symbol 269 and its 2 extra bits (30_encoding.md R86, R90). -/
def execLen269 (ev : BitVec 2) (s : State) : Host.Outcome State Fault Refusal :=
  sendSymbol (fun codes => lenFields codes 12 ev.toNat) s

/-- `LEN_270`: length symbol 270 and its 2 extra bits (30_encoding.md R86, R90). -/
def execLen270 (ev : BitVec 2) (s : State) : Host.Outcome State Fault Refusal :=
  sendSymbol (fun codes => lenFields codes 13 ev.toNat) s

/-- `LEN_271`: length symbol 271 and its 2 extra bits (30_encoding.md R86, R90). -/
def execLen271 (ev : BitVec 2) (s : State) : Host.Outcome State Fault Refusal :=
  sendSymbol (fun codes => lenFields codes 14 ev.toNat) s

/-- `LEN_272`: length symbol 272 and its 2 extra bits (30_encoding.md R86, R90). -/
def execLen272 (ev : BitVec 2) (s : State) : Host.Outcome State Fault Refusal :=
  sendSymbol (fun codes => lenFields codes 15 ev.toNat) s

/-- `LEN_273`: length symbol 273 and its 3 extra bits (30_encoding.md R86, R90). -/
def execLen273 (ev : BitVec 3) (s : State) : Host.Outcome State Fault Refusal :=
  sendSymbol (fun codes => lenFields codes 16 ev.toNat) s

/-- `LEN_274`: length symbol 274 and its 3 extra bits (30_encoding.md R86, R90). -/
def execLen274 (ev : BitVec 3) (s : State) : Host.Outcome State Fault Refusal :=
  sendSymbol (fun codes => lenFields codes 17 ev.toNat) s

/-- `LEN_275`: length symbol 275 and its 3 extra bits (30_encoding.md R86, R90). -/
def execLen275 (ev : BitVec 3) (s : State) : Host.Outcome State Fault Refusal :=
  sendSymbol (fun codes => lenFields codes 18 ev.toNat) s

/-- `LEN_276`: length symbol 276 and its 3 extra bits (30_encoding.md R86, R90). -/
def execLen276 (ev : BitVec 3) (s : State) : Host.Outcome State Fault Refusal :=
  sendSymbol (fun codes => lenFields codes 19 ev.toNat) s

/-- `LEN_277`: length symbol 277 and its 4 extra bits (30_encoding.md R86, R90). -/
def execLen277 (ev : BitVec 4) (s : State) : Host.Outcome State Fault Refusal :=
  sendSymbol (fun codes => lenFields codes 20 ev.toNat) s

/-- `LEN_278`: length symbol 278 and its 4 extra bits (30_encoding.md R86, R90). -/
def execLen278 (ev : BitVec 4) (s : State) : Host.Outcome State Fault Refusal :=
  sendSymbol (fun codes => lenFields codes 21 ev.toNat) s

/-- `LEN_279`: length symbol 279 and its 4 extra bits (30_encoding.md R86, R90). -/
def execLen279 (ev : BitVec 4) (s : State) : Host.Outcome State Fault Refusal :=
  sendSymbol (fun codes => lenFields codes 22 ev.toNat) s

/-- `LEN_280`: length symbol 280 and its 4 extra bits (30_encoding.md R86, R90). -/
def execLen280 (ev : BitVec 4) (s : State) : Host.Outcome State Fault Refusal :=
  sendSymbol (fun codes => lenFields codes 23 ev.toNat) s

/-- `LEN_281`: length symbol 281 and its 5 extra bits (30_encoding.md R86, R90). -/
def execLen281 (ev : BitVec 5) (s : State) : Host.Outcome State Fault Refusal :=
  sendSymbol (fun codes => lenFields codes 24 ev.toNat) s

/-- `LEN_282`: length symbol 282 and its 5 extra bits (30_encoding.md R86, R90). -/
def execLen282 (ev : BitVec 5) (s : State) : Host.Outcome State Fault Refusal :=
  sendSymbol (fun codes => lenFields codes 25 ev.toNat) s

/-- `LEN_283`: length symbol 283 and its 5 extra bits (30_encoding.md R86, R90). -/
def execLen283 (ev : BitVec 5) (s : State) : Host.Outcome State Fault Refusal :=
  sendSymbol (fun codes => lenFields codes 26 ev.toNat) s

/-- `LEN_284`: length symbol 284 and its 5 extra bits (30_encoding.md R86, R90). -/
def execLen284 (ev : BitVec 5) (s : State) : Host.Outcome State Fault Refusal :=
  sendSymbol (fun codes => lenFields codes 27 ev.toNat) s

/-- `LEN_285`: length symbol 285 and its 0 extra bits (30_encoding.md R86, R90). -/
def execLen285 (s : State) : Host.Outcome State Fault Refusal := sendSymbol (fun codes => lenFields codes 28 0) s

/-- `LL_RESERVED`: never produced, no meaning (30_encoding.md R91, U10). Log 5. -/
def execLlReserved (_x : BitVec 1) (_s : State) : Host.Outcome State Fault Refusal := .refused .reservedOutput

end Sys2Proof.Machine
end

