-- ==== Sys2Proof/Machine/StaticRows.lean ====
section
/-! DEFINITION. The rows of format `STATIC`: the static codes, most significant bit first (30_encoding.md R93, R94). -/

namespace Sys2Proof.Machine

/-- `STATIC_LL_0_143`: the 8-bit code, sent most significant bit first (30_encoding.md R93). -/
def execStaticLl0To143 (c : BitVec 8) (s : State) : Host.Outcome State Fault Refusal :=
  sendFields [{ v := bitrev c.toNat 8, n := 8 }] s

/-- `STATIC_LL_144_255`: the 9-bit code, sent most significant bit first (30_encoding.md R93). -/
def execStaticLl144To255 (c : BitVec 8) (s : State) : Host.Outcome State Fault Refusal :=
  sendFields [{ v := bitrev (0x100 + c.toNat) 9, n := 9 }] s

/-- `STATIC_LL_256_279`: the 7-bit code, sent most significant bit first (30_encoding.md R93). -/
def execStaticLl256To279 (c : BitVec 5) (s : State) : Host.Outcome State Fault Refusal :=
  sendFields [{ v := bitrev c.toNat 7, n := 7 }] s

/-- `STATIC_LL_280_287`: the 8-bit code, sent most significant bit first (30_encoding.md R93). -/
def execStaticLl280To287 (c : BitVec 3) (s : State) : Host.Outcome State Fault Refusal :=
  sendFields [{ v := bitrev (0xC0 + c.toNat) 8, n := 8 }] s

/-- `STATIC_DIST`: the 5-bit code, sent most significant bit first (30_encoding.md R94). -/
def execStaticDist (c : BitVec 5) (s : State) : Host.Outcome State Fault Refusal :=
  sendFields [{ v := bitrev c.toNat 5, n := 5 }] s

end Sys2Proof.Machine
end

