-- ==== Sys2Proof/Machine/Dispatch.lean ====
section
/-! DEFINITION. One arm per instruction of the opcode table. -/

namespace Sys2Proof.Machine

def exec (i : Instr) (s : State) : Host.Outcome State Fault Refusal :=
  match i with
  | .reset => Sys2Proof.Machine.execReset s
  | .setInput => Sys2Proof.Machine.execSetInput s
  | .needsInput => Sys2Proof.Machine.execNeedsInput s
  | .step fl => Sys2Proof.Machine.execStep fl s
  | .getChecksum => Sys2Proof.Machine.execGetChecksum s
  | .reservedCmd w => Sys2Proof.Machine.execReservedCmd w s
  | .blockStored => Sys2Proof.Machine.execBlockStored s
  | .blockStoredFinal => Sys2Proof.Machine.execBlockStoredFinal s
  | .blockStatic => Sys2Proof.Machine.execBlockStatic s
  | .blockStaticFinal => Sys2Proof.Machine.execBlockStaticFinal s
  | .blockDynamic => Sys2Proof.Machine.execBlockDynamic s
  | .blockDynamicFinal => Sys2Proof.Machine.execBlockDynamicFinal s
  | .blockReserved bfinal => Sys2Proof.Machine.execBlockReserved bfinal s
  | .lit b => Sys2Proof.Machine.execLit b s
  | .eob => Sys2Proof.Machine.execEob s
  | .len257 => Sys2Proof.Machine.execLen257 s
  | .len258 => Sys2Proof.Machine.execLen258 s
  | .len259 => Sys2Proof.Machine.execLen259 s
  | .len260 => Sys2Proof.Machine.execLen260 s
  | .len261 => Sys2Proof.Machine.execLen261 s
  | .len262 => Sys2Proof.Machine.execLen262 s
  | .len263 => Sys2Proof.Machine.execLen263 s
  | .len264 => Sys2Proof.Machine.execLen264 s
  | .len265 ev => Sys2Proof.Machine.execLen265 ev s
  | .len266 ev => Sys2Proof.Machine.execLen266 ev s
  | .len267 ev => Sys2Proof.Machine.execLen267 ev s
  | .len268 ev => Sys2Proof.Machine.execLen268 ev s
  | .len269 ev => Sys2Proof.Machine.execLen269 ev s
  | .len270 ev => Sys2Proof.Machine.execLen270 ev s
  | .len271 ev => Sys2Proof.Machine.execLen271 ev s
  | .len272 ev => Sys2Proof.Machine.execLen272 ev s
  | .len273 ev => Sys2Proof.Machine.execLen273 ev s
  | .len274 ev => Sys2Proof.Machine.execLen274 ev s
  | .len275 ev => Sys2Proof.Machine.execLen275 ev s
  | .len276 ev => Sys2Proof.Machine.execLen276 ev s
  | .len277 ev => Sys2Proof.Machine.execLen277 ev s
  | .len278 ev => Sys2Proof.Machine.execLen278 ev s
  | .len279 ev => Sys2Proof.Machine.execLen279 ev s
  | .len280 ev => Sys2Proof.Machine.execLen280 ev s
  | .len281 ev => Sys2Proof.Machine.execLen281 ev s
  | .len282 ev => Sys2Proof.Machine.execLen282 ev s
  | .len283 ev => Sys2Proof.Machine.execLen283 ev s
  | .len284 ev => Sys2Proof.Machine.execLen284 ev s
  | .len285 => Sys2Proof.Machine.execLen285 s
  | .llReserved x => Sys2Proof.Machine.execLlReserved x s
  | .dist0 => Sys2Proof.Machine.execDist0 s
  | .dist1 => Sys2Proof.Machine.execDist1 s
  | .dist2 => Sys2Proof.Machine.execDist2 s
  | .dist3 => Sys2Proof.Machine.execDist3 s
  | .dist4 ev => Sys2Proof.Machine.execDist4 ev s
  | .dist5 ev => Sys2Proof.Machine.execDist5 ev s
  | .dist6 ev => Sys2Proof.Machine.execDist6 ev s
  | .dist7 ev => Sys2Proof.Machine.execDist7 ev s
  | .dist8 ev => Sys2Proof.Machine.execDist8 ev s
  | .dist9 ev => Sys2Proof.Machine.execDist9 ev s
  | .dist10 ev => Sys2Proof.Machine.execDist10 ev s
  | .dist11 ev => Sys2Proof.Machine.execDist11 ev s
  | .dist12 ev => Sys2Proof.Machine.execDist12 ev s
  | .dist13 ev => Sys2Proof.Machine.execDist13 ev s
  | .dist14 ev => Sys2Proof.Machine.execDist14 ev s
  | .dist15 ev => Sys2Proof.Machine.execDist15 ev s
  | .dist16 ev => Sys2Proof.Machine.execDist16 ev s
  | .dist17 ev => Sys2Proof.Machine.execDist17 ev s
  | .dist18 ev => Sys2Proof.Machine.execDist18 ev s
  | .dist19 ev => Sys2Proof.Machine.execDist19 ev s
  | .dist20 ev => Sys2Proof.Machine.execDist20 ev s
  | .dist21 ev => Sys2Proof.Machine.execDist21 ev s
  | .dist22 ev => Sys2Proof.Machine.execDist22 ev s
  | .dist23 ev => Sys2Proof.Machine.execDist23 ev s
  | .dist24 ev => Sys2Proof.Machine.execDist24 ev s
  | .dist25 ev => Sys2Proof.Machine.execDist25 ev s
  | .dist26 ev => Sys2Proof.Machine.execDist26 ev s
  | .dist27 ev => Sys2Proof.Machine.execDist27 ev s
  | .dist28 ev => Sys2Proof.Machine.execDist28 ev s
  | .dist29 ev => Sys2Proof.Machine.execDist29 ev s
  | .distReserved x => Sys2Proof.Machine.execDistReserved x s
  | .cl0 => Sys2Proof.Machine.execCl0 s
  | .cl1 => Sys2Proof.Machine.execCl1 s
  | .cl2 => Sys2Proof.Machine.execCl2 s
  | .cl3 => Sys2Proof.Machine.execCl3 s
  | .cl4 => Sys2Proof.Machine.execCl4 s
  | .cl5 => Sys2Proof.Machine.execCl5 s
  | .cl6 => Sys2Proof.Machine.execCl6 s
  | .cl7 => Sys2Proof.Machine.execCl7 s
  | .cl8 => Sys2Proof.Machine.execCl8 s
  | .cl9 => Sys2Proof.Machine.execCl9 s
  | .cl10 => Sys2Proof.Machine.execCl10 s
  | .cl11 => Sys2Proof.Machine.execCl11 s
  | .cl12 => Sys2Proof.Machine.execCl12 s
  | .cl13 => Sys2Proof.Machine.execCl13 s
  | .cl14 => Sys2Proof.Machine.execCl14 s
  | .cl15 => Sys2Proof.Machine.execCl15 s
  | .cl16 ev => Sys2Proof.Machine.execCl16 ev s
  | .cl17 ev => Sys2Proof.Machine.execCl17 ev s
  | .cl18 ev => Sys2Proof.Machine.execCl18 ev s
  | .staticLl0To143 c => Sys2Proof.Machine.execStaticLl0To143 c s
  | .staticLl144To255 c => Sys2Proof.Machine.execStaticLl144To255 c s
  | .staticLl256To279 c => Sys2Proof.Machine.execStaticLl256To279 c s
  | .staticLl280To287 c => Sys2Proof.Machine.execStaticLl280To287 c s
  | .staticDist c => Sys2Proof.Machine.execStaticDist c s

end Sys2Proof.Machine
end

