-- ==== Sys2Proof/Machine/HostPort.lean ====
section
/-! DEFINITION. The host's side of the core: the register window `REG` (10_state.md R38), host stores to `IBUF`
(20_memory.md R71), power-on (70_reset_and_hazards.md R250); the micro-steps of a block under emission (log 2); how a step
chooses between them; and the command script of 30_encoding.md R83 as host actions. -/

namespace Sys2Proof.Machine

/-- What a read of the register at offset `off` returns; reads have no side effects (table of 10_state.md R38). -/
def State.readReg (s : State) (off : Nat) : Word :=
  match off with
  | 0x04 => s.rstat
  | 0x08 => s.rval
  | 0x0C => s.ibufSize
  | 0x10 => s.argOff
  | 0x14 => s.argLen
  | 0x18 => s.finfo
  | 0x20 => .ofNat 32 s.ser.bitpos
  | 0x24 => .ofNat 32 (s.ser.bitpos / 2 ^ 32)
  | 0x28 => .ofNat 32 s.totalIn
  | 0x2C => .ofNat 32 (s.totalIn / 2 ^ 32)
  | _ => 0

/-- A write to a register other than `CMD`: the three operand registers take the value, all others ignore it (10_state.md
R38, 93_implementation_defined.md U9). -/
def State.writeReg (s : State) (off : Nat) (v : Word) : State :=
  match off with
  | 0x0C => { s with ibufSize := v }
  | 0x10 => { s with argOff := v }
  | 0x14 => { s with argLen := v }
  | _ => s

/-- Only aligned 32-bit accesses are defined (10_state.md R38, U9). Log 13. -/
def alignedWord (off : Word) (bytes : Nat) : Bool := decide (bytes = 4) && decide (off.toNat % 4 = 0)

/-- A register write: `CMD` executes the command, any other register takes or ignores the value (10_state.md R38). -/
def busWrite (off v : Word) (s : State) : Host.Outcome State Fault Refusal :=
  if off = 0 then exec (decodeCmd v) s else .next (s.writeReg off.toNat v)

/-- One action of the outside world. -/
def perform (a : HostAction) (s : State) : Host.Outcome State Fault Refusal :=
  match a with
  | .write off bytes v => if alignedWord off bytes then busWrite off v s else .refused .badAccess
  | .read off bytes =>
    if alignedWord off bytes then .next { s with busData := s.readReg off.toNat } else .refused .badAccess
  | .ibufWrite a b => .next { s with ibuf := s.ibuf.write a.toNat b }
  | .powerOn => .next (powerOnReset s)

/-- The next pending action is performed; with none pending the core waits (70_reset_and_hazards.md R251). -/
def performNext (s : State) : Host.Outcome State Fault Refusal :=
  match s.script with
  | [] => .next s
  | a :: rest => perform a { s with script := rest }

/-! ### The block under emission -/

/-- Run the word `w` of output format `fmt` as one output element; a command word is no output element. -/
def runWord (fmt : Format) (w : Word) (s : State) : Host.Outcome State Fault Refusal :=
  if fmt = .cmdw then .refused (.undecodable .commandWord)
  else match decode fmt w with
    | .ok i => exec i s
    | .error why => .refused (.undecodable why)

/-- One micro-step of `EMITTING`: the next element of the block is sent (line 12 of CLOSE_BLOCK), and after the last one the
block is reset (line 13; 42_block_coordinator.md R160, R176). Log 2. -/
def emitNext (s : State) : Host.Outcome State Fault Refusal :=
  match s.emission with
  | [] => finish (resetBlock s)
  | e :: rest => runWord e.1 e.2 { s with emission := rest }

/-! ### The next step -/

/-- While a block is being emitted the core goes on with it and the host has no move (20_memory.md R68,
70_reset_and_hazards.md R256); otherwise the host's next action is performed. Logs 1 and 2. -/
def runNext (s : State) : Host.Outcome State Fault Refusal := if s.emitting then emitNext s else performNext s

/-- The state in which the word `w` of format `fmt` is what the next step runs: a command word is the host's next action, to
a core that is not in the middle of an emission; an output element is the next one of the block under emission. Log 4. -/
def State.placeWord (s : State) (fmt : Format) (w : Word) : State :=
  match fmt with
  | .cmdw => { s with script := .write 0 4 w :: s.script, phase := if s.emitting then .accumulating else s.phase }
  | fmt => { s.enterEmission with emission := (fmt, w) :: s.emission }

/-! ### The command script (30_encoding.md R83) -/

/-- The register write `reg = v` at offset `off`. -/
def regWrite (off v : Word) : HostAction := .write off 4 v

/-- A command: the write of its word to `CMD`. -/
def command (w : Word) : List HostAction := [regWrite 0x00 w]

/-- `SET_INPUT off, len`: the two operand writes and the command word. -/
def setInputScript (off len : Word) : List HostAction := regWrite 0x10 off :: regWrite 0x14 len :: command 0x00000001

/-- `IBUF[a..] = bytes`. -/
def storeBytes : Nat → List Byte → List HostAction
  | _, [] => []
  | a, b :: bs => .ibufWrite (.ofNat 32 a) b :: storeBytes (a + 1) bs

/-- `FEED bytes`. -/
def feedScript (bytes : List Byte) : List HostAction :=
  storeBytes 0 bytes ++ regWrite 0x0C (.ofNat 32 bytes.length) :: setInputScript 0 (.ofNat 32 bytes.length)

/-- `COMPRESS bytes`: `RESET; FEED bytes; STEP FINISH`. -/
def compressScript (bytes : List Byte) : List HostAction :=
  command 0x00000000 ++ feedScript bytes ++ command 0x00000023

end Sys2Proof.Machine
end

