-- ==== Sys2Proof/Machine/Step.lean ====
section
/-! DEFINITION. One step of the machine (logs 1 and 2), and where the host places an instruction (log 4). -/

namespace Sys2Proof.Machine

/-- One step: the next action of the host, or the next element of the block under emission. -/
def step (s : State) : Host.Outcome State Fault Refusal := runNext s

/-- The table word `w` of `nbits` bits as what the next step runs. -/
def State.withFetchWord (s : State) (nbits w : Nat) : State :=
  s.placeWord (tableFormat nbits (tableBits nbits w)) (.ofNat 32 (tableBits nbits w))

end Sys2Proof.Machine
end

