-- ==== Sys2Proof/Safety.lean ====
section
/-! DEFINITION. The terms claims are stated in: the bit stream of the serializer, what tokens and code-length symbols stand
for, and the invariants that hold between commands (10_state.md R34, R40; 43_bit_serializer.md R193). -/

namespace Sys2Proof.Machine

/-! ### Bit streams -/

/-- The low `n` bits of `v`, bit 0 first (20_memory.md R65). -/
def bits (v : Nat) : Nat → List Bool
  | 0 => []
  | n + 1 => decide (v % 2 = 1) :: bits (v / 2) n

/-- The bits a `PUT_BITS(v, n)` sends, in order (43_bit_serializer.md R193). -/
def BitField.bits (f : BitField) : List Bool := Machine.bits f.v f.n

/-- The bits a list of fields sends, in order. -/
def fieldBits (fs : List BitField) : List Bool := fs.flatMap BitField.bits

/-- The bits of a sequence of bytes, each bit 0 first. -/
def byteBits (bs : List Byte) : List Bool := bs.flatMap fun b => bits b.toNat 8

/-- All bits written in this run: those of `OUT`, then the `NB` low bits of `ACC` (R193). -/
def Serializer.stream (z : Serializer) : List Bool := byteBits z.out ++ bits z.acc.toNat z.nb.toNat

/-- `NB = BITPOS mod 8`, `|OUT| = BITPOS div 8`, `ACC < 2^NB` (R193, 10_state.md R34). -/
abbrev Serializer.wf (z : Serializer) : Prop :=
  z.nb.toNat = z.bitpos % 8 ∧ z.out.length = z.bitpos / 8 ∧ z.acc.toNat < 2 ^ z.nb.toNat

/-! ### What tokens and code-length symbols stand for -/

/-- Append `l` bytes, each the one `d` before it (40_match_finder.md R124). -/
def copyBytes (d : Nat) : Nat → List Byte → List Byte
  | 0, h => h
  | l + 1, h => copyBytes d l (h ++ [h.getD (h.length - d) 0])

/-- The history after a token (40_match_finder.md R124, R128). -/
def Token.expand (h : List Byte) : Token → List Byte
  | .lit b => h ++ [b]
  | .ref d l => copyBytes d l h

/-- The code lengths after a code-length symbol (30_encoding.md R88). -/
def ClSym.expand (h : List Nat) (c : ClSym) : List Nat :=
  if c.sym = 16 then h ++ List.replicate (c.ev + 3) (h.getLastD 0)
  else if c.sym = 17 then h ++ List.replicate (c.ev + 3) 0
  else if c.sym = 18 then h ++ List.replicate (c.ev + 11) 0
  else h ++ [c.sym]

/-- The code lengths a sequence of code-length symbols describes. -/
def expandLengths (cs : List ClSym) : List Nat := cs.foldl ClSym.expand []

/-- The literal/length symbol of a token (40_match_finder.md R126). -/
def Token.litSymbol : Token → Nat
  | .lit b => b.toNat
  | .ref _ l => 257 + lenCode l

/-- The distance symbol of a token, if it has one (40_match_finder.md R126). -/
def Token.distSymbol : Token → Option Nat
  | .lit _ => none
  | .ref d _ => some (distCode d)

/-- `k` is `mlen(d)` at the current position, said by positions (40_match_finder.md R123). -/
abbrev State.isMatchLength (s : State) (d k : Nat) : Prop :=
  k ≤ s.matchLimit ∧ (∀ i < k, s.window[s.p + i]? = s.window[s.p + i - d]?) ∧
  (k < s.matchLimit → s.window[s.p + k]? ≠ s.window[s.p + k - d]?)

/-! ### Invariants between commands (10_state.md R40) -/

/-- A queue entry the Match Finder can have made (10_state.md R31). -/
abbrev QEntry.wf (c : Params) (e : QEntry) : Prop :=
  (e.d = 0 → e.a.toNat < 256) ∧
  (e.d ≠ 0 → 3 ≤ e.a.toNat ∧ e.a.toNat ≤ c.maxMatch ∧ e.d.toNat ≤ c.wsize)

/-- `LFREQ` and `DFREQ` as TALLY leaves them after the tokens of a queue (40_match_finder.md R126). -/
def talliedLit (q : List QEntry) : List Word :=
  q.foldl (fun t e => bump t e.token.litSymbol) (List.replicate Config.lCodes 0)

/-- See `talliedLit`. -/
def talliedDist (q : List QEntry) : List Word :=
  q.foldl (fun t e => match e.token.distSymbol with | some c => bump t c | none => t) (List.replicate Config.dCodes 0)

/-- The instance is legal and host memory is in its canonical form. -/
abbrev State.hostInv (s : State) : Prop := s.params.legal ∧ s.ibuf.wf

/-- Between commands `PHASE` is `ACCUMULATING`, `DONE` or `FAULT` (10_state.md R21), a fault code is held exactly in `FAULT`
(R22, R39), and no element is left to send (43_bit_serializer.md R194). -/
abbrev State.controlInv (s : State) : Prop :=
  (s.phase = .accumulating ∨ s.phase = .done ∨ s.phase = .fault) ∧ (s.phase = .fault ↔ s.fcode ≠ .none) ∧
  s.emission = []

/-- The counters stay in the spec's range (93_implementation_defined.md U11). -/
abbrev State.counterInv (s : State) : Prop := s.totalIn < Config.maxTotalIn ∧ s.ser.bitpos < Config.maxBitpos

/-- R40 (e). After an internal fault the serializer is unspecified, hence the premise. -/
abbrev State.serInv (s : State) : Prop :=
  s.phase ≠ .fault → s.ser.wf ∧ (s.phase = .done → s.ser.nb = 0)

/-- `CKSUM = fold(CK_INIT, S[0 .. TOTAL_IN))` (10_state.md R29). -/
def State.checksumInv (s : State) : Prop :=
  s.phase ≠ .fault → s.cksum = s.window.foldl Config.ckFold Config.ckInit

/-- R40 (c) and `LA <= LA_CAP` (10_state.md R27). -/
abbrev State.positionInv (s : State) : Prop :=
  s.phase ≠ .fault →
    s.blkStart ≤ s.p ∧ s.p ≤ s.totalIn ∧ s.la ≤ s.params.laCap ∧
    s.blkLen = total (s.q.map fun e => e.token.span)

/-- R40 (a) and what R40 (b) follows from: the tables are the tallies of the queue, whose entries are tokens. -/
abbrev State.tallyInv (s : State) : Prop :=
  s.phase ≠ .fault →
    s.q.length < s.params.qcap ∧ (∀ e ∈ s.q, e.wf s.params) ∧
    s.lfreq = talliedLit s.q ∧ s.dfreq = talliedDist s.q ∧ s.blfreq = List.replicate Config.blCodes 0

/-- All of them. -/
structure State.Inv (s : State) : Prop where
  host : s.hostInv
  control : s.controlInv
  counters : s.counterInv
  ser : s.serInv
  checksum : s.checksumInv
  position : s.positionInv
  tally : s.tallyInv

end Sys2Proof.Machine

/-- The action resets the core: power-on, or the RESET word written to `CMD` (70_reset_and_hazards.md R250). -/
def Sys2Proof.HostAction.resets : Sys2Proof.HostAction → Bool
  | .powerOn => true
  | .write off bytes v => Sys2Proof.Machine.alignedWord off bytes && decide (off = 0) && decide (v = 0)
  | _ => false
end

