-- ==== Sys2Proof/Certificates/Slice0/Obligations.lean ====
section
/-! DEFINITION. The statements for the provers. Each docstring names the rule of spec/ it formalises. -/

open Sys2Proof Sys2Proof.Machine

namespace Sys2Proof.Claims

/-! ### The rows of the output formats, written out from the opcode table -/

/-- What each literal/length and distance row sends: its symbol's code, then its extra bits (30_encoding.md R86, R87,
R90). -/
def symbolFields (codes : BlockCodes) : Instr → Option (List BitField)
  | .lit b => some [codes.lit b.toNat]
  | .eob => some [codes.lit 256]
  | .len257 => some [codes.lit 257]
  | .len258 => some [codes.lit 258]
  | .len259 => some [codes.lit 259]
  | .len260 => some [codes.lit 260]
  | .len261 => some [codes.lit 261]
  | .len262 => some [codes.lit 262]
  | .len263 => some [codes.lit 263]
  | .len264 => some [codes.lit 264]
  | .len265 ev => some [codes.lit 265, { v := ev.toNat, n := 1 }]
  | .len266 ev => some [codes.lit 266, { v := ev.toNat, n := 1 }]
  | .len267 ev => some [codes.lit 267, { v := ev.toNat, n := 1 }]
  | .len268 ev => some [codes.lit 268, { v := ev.toNat, n := 1 }]
  | .len269 ev => some [codes.lit 269, { v := ev.toNat, n := 2 }]
  | .len270 ev => some [codes.lit 270, { v := ev.toNat, n := 2 }]
  | .len271 ev => some [codes.lit 271, { v := ev.toNat, n := 2 }]
  | .len272 ev => some [codes.lit 272, { v := ev.toNat, n := 2 }]
  | .len273 ev => some [codes.lit 273, { v := ev.toNat, n := 3 }]
  | .len274 ev => some [codes.lit 274, { v := ev.toNat, n := 3 }]
  | .len275 ev => some [codes.lit 275, { v := ev.toNat, n := 3 }]
  | .len276 ev => some [codes.lit 276, { v := ev.toNat, n := 3 }]
  | .len277 ev => some [codes.lit 277, { v := ev.toNat, n := 4 }]
  | .len278 ev => some [codes.lit 278, { v := ev.toNat, n := 4 }]
  | .len279 ev => some [codes.lit 279, { v := ev.toNat, n := 4 }]
  | .len280 ev => some [codes.lit 280, { v := ev.toNat, n := 4 }]
  | .len281 ev => some [codes.lit 281, { v := ev.toNat, n := 5 }]
  | .len282 ev => some [codes.lit 282, { v := ev.toNat, n := 5 }]
  | .len283 ev => some [codes.lit 283, { v := ev.toNat, n := 5 }]
  | .len284 ev => some [codes.lit 284, { v := ev.toNat, n := 5 }]
  | .len285 => some [codes.lit 285]
  | .dist0 => some [codes.dist 0]
  | .dist1 => some [codes.dist 1]
  | .dist2 => some [codes.dist 2]
  | .dist3 => some [codes.dist 3]
  | .dist4 ev => some [codes.dist 4, { v := ev.toNat, n := 1 }]
  | .dist5 ev => some [codes.dist 5, { v := ev.toNat, n := 1 }]
  | .dist6 ev => some [codes.dist 6, { v := ev.toNat, n := 2 }]
  | .dist7 ev => some [codes.dist 7, { v := ev.toNat, n := 2 }]
  | .dist8 ev => some [codes.dist 8, { v := ev.toNat, n := 3 }]
  | .dist9 ev => some [codes.dist 9, { v := ev.toNat, n := 3 }]
  | .dist10 ev => some [codes.dist 10, { v := ev.toNat, n := 4 }]
  | .dist11 ev => some [codes.dist 11, { v := ev.toNat, n := 4 }]
  | .dist12 ev => some [codes.dist 12, { v := ev.toNat, n := 5 }]
  | .dist13 ev => some [codes.dist 13, { v := ev.toNat, n := 5 }]
  | .dist14 ev => some [codes.dist 14, { v := ev.toNat, n := 6 }]
  | .dist15 ev => some [codes.dist 15, { v := ev.toNat, n := 6 }]
  | .dist16 ev => some [codes.dist 16, { v := ev.toNat, n := 7 }]
  | .dist17 ev => some [codes.dist 17, { v := ev.toNat, n := 7 }]
  | .dist18 ev => some [codes.dist 18, { v := ev.toNat, n := 8 }]
  | .dist19 ev => some [codes.dist 19, { v := ev.toNat, n := 8 }]
  | .dist20 ev => some [codes.dist 20, { v := ev.toNat, n := 9 }]
  | .dist21 ev => some [codes.dist 21, { v := ev.toNat, n := 9 }]
  | .dist22 ev => some [codes.dist 22, { v := ev.toNat, n := 10 }]
  | .dist23 ev => some [codes.dist 23, { v := ev.toNat, n := 10 }]
  | .dist24 ev => some [codes.dist 24, { v := ev.toNat, n := 11 }]
  | .dist25 ev => some [codes.dist 25, { v := ev.toNat, n := 11 }]
  | .dist26 ev => some [codes.dist 26, { v := ev.toNat, n := 12 }]
  | .dist27 ev => some [codes.dist 27, { v := ev.toNat, n := 12 }]
  | .dist28 ev => some [codes.dist 28, { v := ev.toNat, n := 13 }]
  | .dist29 ev => some [codes.dist 29, { v := ev.toNat, n := 13 }]
  | _ => none

/-- What each code-length row sends (30_encoding.md R88, R96). -/
def codeLengthFields (bl : CodeTable) : Instr → Option (List BitField)
  | .cl0 => some [bl.field 0]
  | .cl1 => some [bl.field 1]
  | .cl2 => some [bl.field 2]
  | .cl3 => some [bl.field 3]
  | .cl4 => some [bl.field 4]
  | .cl5 => some [bl.field 5]
  | .cl6 => some [bl.field 6]
  | .cl7 => some [bl.field 7]
  | .cl8 => some [bl.field 8]
  | .cl9 => some [bl.field 9]
  | .cl10 => some [bl.field 10]
  | .cl11 => some [bl.field 11]
  | .cl12 => some [bl.field 12]
  | .cl13 => some [bl.field 13]
  | .cl14 => some [bl.field 14]
  | .cl15 => some [bl.field 15]
  | .cl16 ev => some [bl.field 16, { v := ev.toNat, n := 2 }]
  | .cl17 ev => some [bl.field 17, { v := ev.toNat, n := 3 }]
  | .cl18 ev => some [bl.field 18, { v := ev.toNat, n := 7 }]
  | _ => none

/-- What each static row sends: the symbol it stands for, its code and the length of the code in bits, the code read most
significant bit first (tables of 30_encoding.md R93 and R94). -/
def staticRow : Instr → Option (BitField × Nat × Nat)
  | .staticLl0To143 c => some (staticLit (c.toNat - 0x30), c.toNat, 8)
  | .staticLl144To255 c => some (staticLit (c.toNat - 0x90 + 144), 0x100 + c.toNat, 9)
  | .staticLl256To279 c => some (staticLit (256 + c.toNat), c.toNat, 7)
  | .staticLl280To287 c => some (staticLit (280 + c.toNat), 0xC0 + c.toNat, 8)
  | .staticDist c => some (staticDist c.toNat, c.toNat, 5)
  | _ => none

/-- The six block rows with their encoding and whether they are final (30_encoding.md R85). -/
def blockRow (kind : BlockKind) (final : Bool) : Instr :=
  match kind, final with
  | .stored, false => .blockStored
  | .stored, true => .blockStoredFinal
  | .fixed, false => .blockStatic
  | .fixed, true => .blockStaticFinal
  | .dynamic, false => .blockDynamic
  | .dynamic, true => .blockDynamicFinal

/-- The three rows the spec never lets the core produce (30_encoding.md R91). -/
def reservedRow : Instr → Bool
  | .blockReserved _ => true
  | .llReserved _ => true
  | .distReserved _ => true
  | _ => false

/-- The number of each fault code (table of 60_exceptions.md R220). -/
def fcodeNumber : FCode → Nat
  | .none => 0
  | .inputPending => 1
  | .bounds => 2
  | .freqNonzero => 3
  | .limitDiverge => 4
  | .badCmd => 5
  | .finished => 6

/-- The number of each phase (table of 10_state.md R21). -/
def phaseNumber : Phase → Nat
  | .accumulating => 0
  | .sizing => 1
  | .emitting => 2
  | .done => 3
  | .fault => 4

/-- The state with the input range `[off, off + n)` pending. -/
def loaded (off n : Word) (s : State) : State := { s with inOff := off, inLen := n }

end Sys2Proof.Claims

open Sys2Proof.Claims

/-! ### Reset and the commands -/

/-- Power-on reset: from every state the action leaves the core in `State.reset`, whose every register, table and queue has
the value of the reset table, power-on column (10_state.md R39, 70_reset_and_hazards.md R250). That the host's memory and
pending actions, the instance's parameters and the model's `busData` and `free` stay is the model's choice (log 15); what
they hold in `State.reset` is no part of this statement (logs 1, 8, 9, 14). -/
def Obligations.PowerOnResetValues : Prop :=
  (∀ s : State, perform .powerOn s = .next
    { State.reset with
      params := s.params, script := s.script, ibuf := s.ibuf, busData := s.busData, free := s.free }) ∧
  let s := State.reset
  s.phase = .accumulating ∧ s.fcode = .none ∧ s.finfo = 0 ∧ s.flags = 0 ∧ s.progress = false ∧
  s.inOff = 0 ∧ s.inLen = 0 ∧ s.window = [] ∧ s.totalIn = 0 ∧ s.p = 0 ∧ s.blkStart = 0 ∧ s.cksum = Config.ckInit ∧
  s.lfreq = List.replicate 286 0 ∧ s.dfreq = List.replicate 30 0 ∧ s.blfreq = List.replicate 19 0 ∧ s.qn = 0 ∧
  s.ser.acc = 0 ∧ s.ser.nb = 0 ∧ s.ser.bitpos = 0 ∧ s.ser.out = [] ∧
  s.ibufSize = 0 ∧ s.argOff = 0 ∧ s.argLen = 0 ∧ s.rstat = 0 ∧ s.rval = 0

/-- RESET answers in every `PHASE`: every piece of the core's state takes its reset value, a new empty `OUT` begins, the
three operand registers (and the host's memory and actions, and the instance's parameters) stay, and the response is
`OK(0)` (44_host_commands.md R201). -/
def Obligations.ResetRestoresEverything : Prop :=
  ∀ s : State, exec .reset s = .next
    { State.reset with
      params := s.params, script := s.script, ibuf := s.ibuf, busData := s.busData, free := s.free
      ibufSize := s.ibufSize, argOff := s.argOff, argLen := s.argLen, rerr := false, rval := 0 }

/-- SET_INPUT: its three checks in order, then the range is loaded and the response is `OK(0)`; each failing check is a
precise fault (44_host_commands.md R202). -/
def Obligations.SetInputChecksThenLoads : Prop :=
  ∀ s : State, s.phase ≠ .fault →
    (s.phase = .done → exec .setInput s = .next
      { s with phase := .fault, fcode := .finished, finfo := 0, rerr := true, rval := 6 }) ∧
    (s.phase ≠ .done → s.inLen ≠ 0 → exec .setInput s = .next
      { s with phase := .fault, fcode := .inputPending, finfo := s.inLen, rerr := true, rval := 1 }) ∧
    (s.phase ≠ .done → s.inLen = 0 → s.ibufSize.toNat < s.argOff.toNat + s.argLen.toNat → exec .setInput s = .next
      { s with phase := .fault, fcode := .bounds, finfo := s.ibufSize, rerr := true, rval := 2 }) ∧
    (s.phase ≠ .done → s.inLen = 0 → s.argOff.toNat + s.argLen.toNat ≤ s.ibufSize.toNat → exec .setInput s = .next
      { s with inOff := s.argOff, inLen := s.argLen, rerr := false, rval := 0 })

/-- NEEDS_INPUT answers `OK(1)` if `IN_LEN = 0`, else `OK(0)`, and changes nothing but the response
(44_host_commands.md R203). -/
def Obligations.NeedsInputAnswersPredicate : Prop :=
  ∀ s : State, s.phase ≠ .fault →
    (s.inLen = 0 → exec .needsInput s = .next { s with rerr := false, rval := 1 }) ∧
    (s.inLen ≠ 0 → exec .needsInput s = .next { s with rerr := false, rval := 0 })

/-- GET_CHECKSUM answers `OK(CKSUM)`, changes nothing but the response, and between commands the value is the fold of the
bytes consumed so far (44_host_commands.md R207, 10_state.md R29). -/
def Obligations.ChecksumAnswersFold : Prop :=
  ∀ s : State, s.phase ≠ .fault → s.checksumInv →
    exec .getChecksum s = .next { s with rerr := false, rval := s.window.foldl Config.ckFold Config.ckInit }

/-- A command word with a reserved `OP`, with a bit of `Z` set, or with flags on a command other than STEP raises
`F_BAD_CMD` with the word as information, unless the core is faulted already, when it answers `ERR(FCODE)`; only the word 0
resets (30_encoding.md R82). -/
def Obligations.ReservedWordRaisesBadCmd : Prop :=
  (∀ w : Word, decodeCmd w = .reset ↔ w = 0) ∧
  ∀ (w : Word) (s : State),
    (5 ≤ w.toNat % 16 ∨ w.toNat / 64 ≠ 0 ∨ (w.toNat / 16 % 4 ≠ 0 ∧ w.toNat % 16 ≠ 3)) →
    decodeCmd w = .reservedCmd w ∧ busWrite 0 w s = exec (.reservedCmd w) s ∧
    (s.phase ≠ .fault → exec (.reservedCmd w) s = .next
      { s with phase := .fault, fcode := .badCmd, finfo := w, rerr := true, rval := 5 }) ∧
    (s.phase = .fault → exec (.reservedCmd w) s = .next
      { s with rerr := true, rval := .ofNat 32 s.fcode.code })

/-- While `PHASE = FAULT` every command word but RESET's responds `ERR(FCODE)` and changes nothing but the response
(60_exceptions.md R222). -/
def Obligations.FaultedCoreAnswersErr : Prop :=
  ∀ (w : Word) (s : State), s.phase = .fault → w ≠ 0 →
    busWrite 0 w s = .next { s with rerr := true, rval := .ofNat 32 s.fcode.code }

/-- STEP in `DONE` changes only `FLAGS`, `PROGRESS` and the response `OK(0)` (44_host_commands.md R205 line 2 and corner
case (e)). -/
def Obligations.StepInDoneSetsFlagsOnly : Prop :=
  ∀ (fl : BitVec 2) (s : State), s.phase = .done →
    exec (.step fl) s = .next { s with flags := fl, progress := false, rerr := false, rval := 0 }

/-- STEP with nothing to do, no FINISH, and no queued token under FLUSH answers `OK(0)` and changes only `FLAGS`,
`PROGRESS` and the response (44_host_commands.md R205, corner case (d)). -/
def Obligations.StepWithNothingToDoAnswersZero : Prop :=
  ∀ (fl : BitVec 2) (s : State), s.phase = .accumulating → s.inLen = 0 → fl.getLsbD 1 = false →
    (fl = 0 → s.la < s.params.maxMatch) → (fl ≠ 0 → s.la = 0 ∧ s.q = []) →
    exec (.step fl) s = .next { s with flags := fl, progress := false, rerr := false, rval := 0 }

/-- A short range under a plain STEP is consumed whole, checksummed in order, and not matched: the bytes wait in `S`
(40_match_finder.md R121, R122; 44_host_commands.md R205 corner case (a)). -/
def Obligations.StepWithoutFlagOnlyConsumesShortRange : Prop :=
  ∀ s : State, s.phase = .accumulating → s.inLen ≠ 0 → s.la + s.inLen.toNat < s.params.maxMatch →
    s.p ≤ s.totalIn → s.params.maxMatch ≤ s.params.laCap → s.totalIn + s.inLen.toNat < 2 ^ 61 →
    exec (.step 0) s = .next
      { s with
        flags := 0, progress := true, rerr := false, rval := 1
        window := s.window ++ s.inputBytes s.inLen.toNat
        cksum := (s.inputBytes s.inLen.toNat).foldl Config.ckFold s.cksum
        inOff := s.inOff + s.inLen, inLen := 0 }

/-- FINISH with nothing pending emits one final empty static block, pads to a byte and enters `DONE`
(42_block_coordinator.md R177, 44_host_commands.md R205 corner case (c), 30_encoding.md R99). -/
def Obligations.FinishOfEmptyBlockWritesTenBits : Prop :=
  ∀ (fl : BitVec 2) (s : State), s.Inv → s.phase = .accumulating → s.inLen = 0 → s.la = 0 → s.q = [] →
    fl.getLsbD 1 = true → s.ser.bitpos + 17 < 2 ^ 64 →
    ∃ w : Serializer, exec (.step fl) s = .next
      { s with flags := fl, progress := true, rerr := false, rval := 1, phase := .done, ser := w } ∧
      w.wf ∧ w.nb = 0 ∧ w.stream = s.ser.stream ++ bits 3 3 ++ bits 0 7 ++
        List.replicate ((8 - (s.ser.bitpos + 10) % 8) % 8) false

/-- A STEP that responds `OK` has consumed the whole pending range, in order, and matched every position it may: with a
flag all lookahead, without one all but fewer than `MAX_MATCH` bytes (44_host_commands.md R205 line 11, 10_state.md R40
(d)). -/
def Obligations.StepRunsToQuiescence : Prop :=
  ∀ (fl : BitVec 2) (s t : State), s.Inv → s.phase = .accumulating → exec (.step fl) s = .next t → t.rerr = false →
    t.inLen = 0 ∧ t.inOff = s.inOff + s.inLen ∧
    t.window = s.window ++ s.inputBytes s.inLen.toNat ∧
    (fl ≠ 0 → t.la = 0) ∧ (fl = 0 → t.la < t.params.maxMatch)

/-- `PROGRESS`, and so the response of STEP, is 1 exactly when a byte was consumed, a token tallied or a block closed
(44_host_commands.md R205). -/
def Obligations.StepProgressMeansWork : Prop :=
  ∀ (fl : BitVec 2) (s t : State), s.Inv → s.phase = .accumulating → exec (.step fl) s = .next t → t.rerr = false →
    t.rval = .ofNat 32 t.progress.toNat ∧
    (t.progress = true ↔ s.inLen ≠ 0 ∨ t.p ≠ s.p ∨ t.ser.bitpos ≠ s.ser.bitpos)

/-- What the flags mean for the output: after FINISH the core is in `DONE`, byte aligned with every bit in `OUT`; after
FLUSH alone no token is left queued and the run goes on. The block FINISH closes, empty or not, is final and is followed by
padding zeros only; the block FLUSH closes is not final, and FLUSH closes none where no token is queued; without a flag none
is closed. `u` is the state at line 11 of STEP, and the first bit a block adds is its `BFINAL`
(44_host_commands.md R205, R206; 42_block_coordinator.md R167; 30_encoding.md R85). -/
def Obligations.FlagsCloseTheStream : Prop :=
  ∀ (fl : BitVec 2) (s t : State), s.Inv → s.phase = .accumulating → exec (.step fl) s = .next t → t.rerr = false →
    (fl.getLsbD 1 = true → t.phase = .done ∧ t.ser.nb = 0 ∧ t.q = [] ∧ t.ser.stream = byteBits t.ser.out) ∧
    (fl.getLsbD 1 = false → t.phase = .accumulating) ∧ (fl = 1 → t.q = [] ∧ t.blkStart = t.p) ∧
    ∃ u, quiesce (s.beginStep fl).stepFuel (s.beginStep fl) = .ok u ∧
      (fl.getLsbD 1 = true → ∃ v bs k, closeBlock true u = .ok v ∧ v.ser.stream = u.ser.stream ++ true :: bs ∧
        k < 8 ∧ t.ser.stream = v.ser.stream ++ List.replicate k false) ∧
      (fl = 1 → u.q ≠ [] → ∃ v bs, closeBlock false u = .ok v ∧ v.ser.stream = u.ser.stream ++ false :: bs ∧
        t.ser = v.ser) ∧
      (fl = 1 → u.q = [] → t.ser = u.ser) ∧ (fl = 0 → t.ser = u.ser)

/-- In a state between commands no STEP gets stuck, and the serializer's preconditions hold at every call: the only
refusal left is a counter that would leave the spec's range, and away from that bound every STEP completes
(43_bit_serializer.md R190, R192; 44_host_commands.md R205; 93_implementation_defined.md U5, U11). -/
def Obligations.StepKeepsEveryPrecondition : Prop :=
  ∀ (fl : BitVec 2) (s : State), s.Inv →
    (∀ f, exec (.step fl) s ≠ .fault f) ∧ (∀ r, exec (.step fl) s = .refused r → r = .streamTooLong) ∧
    (s.totalIn + s.inLen.toNat < 2 ^ 61 → s.ser.bitpos < 2 ^ 63 → ∃ t, exec (.step fl) s = .next t)

/-- What a STEP that responds `OK` leaves alone: the fault registers; and where it matched nothing and wrote nothing, the
tables, the queue, the block's start and the serializer (44_host_commands.md R205; 10_state.md R22, R23). -/
def Obligations.StepFrame : Prop :=
  ∀ (fl : BitVec 2) (s t : State), s.Inv → s.phase = .accumulating → exec (.step fl) s = .next t → t.rerr = false →
    t.flags = fl ∧ t.fcode = s.fcode ∧ t.finfo = s.finfo ∧ t.free = s.free ∧
    (t.p = s.p → t.ser.bitpos = s.ser.bitpos →
      t.lfreq = s.lfreq ∧ t.dfreq = s.dfreq ∧ t.blfreq = s.blfreq ∧ t.q = s.q ∧ t.blkStart = s.blkStart ∧
      t.ser = s.ser)

/-- An internal fault in the middle of a STEP: the fault registers and the response say so, and the bytes already in
`OUT`, `BITPOS` and `TOTAL_IN` keep the values they had at the fault (60_exceptions.md R221 (b)). -/
def Obligations.InternalFaultKeepsOutput : Prop :=
  ∀ (fl : BitVec 2) (s u : State) (c : FCode) (v : Word), s.phase ≠ .fault →
    runStep fl { s with flags := fl, progress := false } = .error (.trap c v u) →
    ∃ t, exec (.step fl) s = .next t ∧ t.phase = .fault ∧ t.fcode = c ∧ t.finfo = v ∧ t.rerr = true ∧
      t.rval = .ofNat 32 c.code ∧ t.ser.out = u.ser.out ∧ t.ser.bitpos = u.ser.bitpos ∧ t.totalIn = u.totalIn ∧
      (c = .limitDiverge ∨ c = .freqNonzero)

/-! ### The Match Finder -/

/-- FIND reports the longest match of the window, the nearest of the longest, if it has at least 3 bytes, and otherwise the
literal at `P` (40_match_finder.md R123). -/
def Obligations.FindIsLongestThenNearest : Prop :=
  ∀ s : State, s.canFind = true →
    (∃ d l, find s = .ref d l ∧ 3 ≤ l ∧ 1 ≤ d ∧ d ≤ min s.p s.params.wsize ∧ s.isMatchLength d l ∧
      ∀ d' l', 1 ≤ d' → d' ≤ min s.p s.params.wsize → s.isMatchLength d' l' → l' ≤ l ∧ (l' = l → d ≤ d')) ∨
    (∃ b, find s = .lit b ∧ s.window[s.p]? = some b ∧
      ∀ d l, 1 ≤ d → d ≤ min s.p s.params.wsize → s.isMatchLength d l → l < 3)

/-- A token stands for the next bytes of the input: expanding it, byte by byte, over the bytes before `P` gives the bytes
before the new `P`; it covers at least one byte and none beyond those consumed (40_match_finder.md R124, R128). -/
def Obligations.TokenReproducesInput : Prop :=
  ∀ s : State, s.canFind = true →
    1 ≤ (find s).span ∧ s.p + (find s).span ≤ s.totalIn ∧
    (find s).expand (s.window.take s.p) = s.window.take (s.p + (find s).span)

/-- How the host cuts the input into ranges is not observable: two ranges under a plain STEP and a final STEP with FINISH
leave the same state as the two ranges supplied at once (40_match_finder.md R127). -/
def Obligations.CuttingTheInputIsUnobservable : Prop :=
  ∀ (fl : BitVec 2) (s s1 t : State) (off n1 n2 : Word), s.Inv → s.phase = .accumulating → s.inLen = 0 →
    n1.toNat + n2.toNat < 2 ^ 32 → fl.getLsbD 1 = true →
    runStep 0 { loaded off n1 s with flags := 0, progress := false } = .ok s1 →
    runStep fl { loaded (off + n1) n2 s1 with flags := fl, progress := false } = .ok t →
    runStep fl { loaded off (n1 + n2) s with flags := fl, progress := false } = .ok t

/-- TALLY counts the token's symbols, appends its queue entry, and closes the block when the queue is full
(40_match_finder.md R126). -/
def Obligations.TallyCountsQueuesAndCloses : Prop :=
  ∀ s : State, s.qn < s.params.qcap →
    (∀ b : Byte,
      let u := { s with
        lfreq := s.lfreq.modify b.toNat (· + 1), q := s.q ++ [{ a := .ofNat 9 b.toNat, d := 0 }] }
      tally (.lit b) s = if s.qn + 1 = s.params.qcap then closeBlock false u else .ok u) ∧
    (∀ d l : Nat,
      let u := { s with
        lfreq := s.lfreq.modify (257 + lenCode l) (· + 1), dfreq := s.dfreq.modify (distCode d) (· + 1)
        q := s.q ++ [{ a := .ofNat 9 l, d := .ofNat 16 d }] }
      tally (.ref d l) s = if s.qn + 1 = s.params.qcap then closeBlock false u else .ok u)

/-- Between commands the frequency tables count the queue: `LFREQ` sums to `QN`, `LFREQ[256]` is 0, `DFREQ` sums to the
number of matches queued (10_state.md R40 (b)). -/
def Obligations.TablesCountTheQueue : Prop :=
  ∀ s : State, s.Inv → s.phase ≠ .fault →
    total (counts s.lfreq) = s.qn ∧ s.lfreq.getD 256 0 = 0 ∧
    total (counts s.dfreq) = (s.q.filter fun e => decide (e.d ≠ 0)).length

/-! ### The Huffman builder -/

/-- A symbol has no code exactly when it is not used, and the table has one entry per symbol
(41_huffman_builder.md R143). -/
def Obligations.UnusedSymbolsHaveNoCode : Prop :=
  ∀ (freq : List Nat) (minCodes cap : Nat) (b : Built), buildCode freq minCodes cap = .ok b →
    b.table.len.length = freq.length ∧ b.table.code.length = freq.length ∧
    ∀ s < freq.length, (entry b.table.len s = 0 ↔ entry freq s = 0)

/-- With at least two used symbols every length lies in `1..cap` and the lengths fill the code space exactly
(41_huffman_builder.md R150 (a), (b)). -/
def Obligations.CodeLengthsFillTheSpace : Prop :=
  ∀ (freq : List Nat) (minCodes cap : Nat) (b : Built), 2 ≤ (leaves freq).length →
    buildCode freq minCodes cap = .ok b →
    (∀ s ∈ leaves freq, 1 ≤ entry b.table.len s ∧ entry b.table.len s ≤ cap) ∧
    total ((leaves freq).map fun s => 2 ^ (cap - entry b.table.len s)) = 2 ^ cap

/-- No code is a prefix of another, and each is a number of its length (41_huffman_builder.md R150 (c), R146). -/
def Obligations.CodesArePrefixFree : Prop :=
  ∀ (freq : List Nat) (minCodes cap : Nat) (b : Built), buildCode freq minCodes cap = .ok b →
    let msb := canonMsb b.table.len cap
    (∀ s ∈ leaves freq, entry msb s < 2 ^ entry b.table.len s) ∧
    ∀ s ∈ leaves freq, ∀ t ∈ leaves freq, s ≠ t → entry b.table.len s ≤ entry b.table.len t →
      entry msb t / 2 ^ (entry b.table.len t - entry b.table.len s) ≠ entry msb s

/-- Codes of one length are consecutive integers in symbol order (41_huffman_builder.md R146). -/
def Obligations.EqualLengthCodesAreConsecutive : Prop :=
  ∀ (len : List Nat) (cap s t : Nat), (∀ l ∈ len, l ≤ cap) → s < t → t < len.length →
    0 < entry len s → entry len t = entry len s → (∀ u, s < u → u < t → entry len u ≠ entry len s) →
    entry (canonMsb len cap) t = entry (canonMsb len cap) s + 1

/-- A stored code is the bit-reversed canonical one, so that sending it least significant bit first sends the code most
significant bit first (41_huffman_builder.md R147, 20_memory.md R65 (b)). -/
def Obligations.CodesGoOutMsbFirst : Prop :=
  ∀ (freq : List Nat) (minCodes cap : Nat) (b : Built), buildCode freq minCodes cap = .ok b →
    ∀ s, (b.table.field s).bits = (bits (entry (canonMsb b.table.len cap) s) (entry b.table.len s)).reverse

/-- `NUMCODES` is the larger of the minimum and one more than the last symbol with a code
(41_huffman_builder.md R148). -/
def Obligations.NumCodesCutsAfterLastUsed : Prop :=
  ∀ (len : List Nat) (minCodes : Nat),
    minCodes ≤ numCodes len minCodes ∧ (∀ s, 0 < entry len s → s < numCodes len minCodes) ∧
    (numCodes len minCodes = minCodes ∨ 0 < entry len (numCodes len minCodes - 1))

/-- The static literal/length codes are those the canonical assignment gives to the 288-entry length table
(30_encoding.md R93). -/
def Obligations.StaticCodesAreCanonical : Prop :=
  let len := List.replicate 144 8 ++ List.replicate 112 9 ++ List.replicate 24 7 ++ List.replicate 8 8
  (List.range 288).map staticLitMsb = (canonMsb len 15).zip len

/-! ### The Block Coordinator -/

/-- The length symbol and its extra bits give every match length back (30_encoding.md R86). -/
def Obligations.LengthSymbolCoversLength : Prop :=
  ∀ l, 3 ≤ l → l ≤ 258 →
    lenCode l ≤ 28 ∧ entry lBase (lenCode l) ≤ l ∧ l - entry lBase (lenCode l) < 2 ^ entry lExtra (lenCode l) ∧
    (lenCode l = 28 ↔ l = 258)

/-- The distance symbol and its extra bits give every distance back (30_encoding.md R87). -/
def Obligations.DistanceSymbolCoversDistance : Prop :=
  ∀ d, 1 ≤ d → d ≤ 32768 →
    distCode d ≤ 29 ∧ entry dBase (distCode d) ≤ d ∧ d - entry dBase (distCode d) < 2 ^ entry dExtra (distCode d) ∧
    (∀ c ≤ 29, entry dBase c ≤ d → c ≤ distCode d)

/-- Run-length coding loses nothing: the symbols, read by what each means, give the code lengths back, and every extra
value fits its field (42_block_coordinator.md R163, 30_encoding.md R88). -/
def Obligations.RunLengthCodingIsLossless : Prop :=
  ∀ seq : List Nat, (∀ l ∈ seq, l ≤ 15) →
    expandLengths (rle seq) = seq ∧
    ∀ c ∈ rle seq, c.sym ≤ 18 ∧ c.ev < 2 ^ c.eb ∧
      c.eb = (if c.sym = 16 then 2 else if c.sym = 17 then 3 else if c.sym = 18 then 7 else 0)

/-- SELECT takes stored only where it is eligible and strictly cheapest, otherwise static unless dynamic is strictly
cheaper (42_block_coordinator.md R166). -/
def Obligations.SelectTakesCheapest : Prop :=
  ∀ c : Costs,
    (select c = .stored ↔ ∃ b, c.stored = some b ∧ b < c.fixed ∧ b < c.dynamic) ∧
    (select c = .fixed ↔ (∀ b, c.stored = some b → c.fixed ≤ b ∨ c.dynamic ≤ b) ∧ c.fixed ≤ c.dynamic) ∧
    (select c = .dynamic ↔ (∀ b, c.stored = some b → c.fixed ≤ b ∨ c.dynamic ≤ b) ∧ c.dynamic < c.fixed)

/-- `COST_STATIC` and `COST_DYNAMIC` are exactly the numbers of bits the two encodings of the block write
(42_block_coordinator.md R164). -/
def Obligations.EstimatesEqualBitsWritten : Prop :=
  ∀ (s : State) (z : Sizing) (final : Bool), s.Inv → s.phase = .accumulating → s.sizing = .ok z →
    (costsOf (counts s.sizedLfreq) (counts s.dfreq) z s.blkLen).fixed = (fieldBits (s.staticFields final)).length ∧
    (costsOf (counts s.sizedLfreq) (counts s.dfreq) z s.blkLen).dynamic =
      (fieldBits (s.dynamicFields final z)).length

/-- CLOSE_BLOCK writes the block row SELECT takes, in `EMITTING` with the tables as lines 2 and 6 leave them, then empties
the tables and the queue, moves `BLK_START` to `P` and returns to `ACCUMULATING`; it changes nothing else
(42_block_coordinator.md R160, R176). That a row is an instruction run on its own is the model's choice (log 2). -/
def Obligations.CloseBlockWritesTheChosenRow : Prop :=
  ∀ (final : Bool) (s t : State), closeBlock final s = .ok t →
    ∃ z, s.sizing = .ok z ∧
      (let e := { s with phase := .emitting, lfreq := s.lfreq.modify 256 (· + 1), blfreq := z.blfreq }
       exec (blockRow (s.choice z) final) e = .next { e with ser := t.ser }) ∧
      t = { s with
        lfreq := List.replicate 286 0, dfreq := List.replicate 30 0, blfreq := List.replicate 19 0, q := []
        blkStart := s.p, ser := t.ser }

/-- The check of RESET_BLOCK never fires (42_block_coordinator.md R176, 60_exceptions.md R226). -/
def Obligations.FreqNonzeroNeverRaised : Prop :=
  ∀ (fl : BitVec 2) (s u : State) (v : Word), runStep fl s ≠ .error (.trap .freqNonzero v u)

/-! ### The serializer -/

/-- PUT_BITS appends its bits to the stream, least significant first (43_bit_serializer.md R190, R193). -/
def Obligations.PutBitsAppendsToStream : Prop :=
  ∀ (z : Serializer) (v n : Nat), z.wf → n ≤ 16 → v < 2 ^ n → z.bitpos + n < 2 ^ 64 →
    ∃ w, putBits { v := v, n := n } z = .ok w ∧ w.wf ∧ w.bitpos = z.bitpos + n ∧ w.stream = z.stream ++ bits v n ∧
      ∃ bs, w.out = z.out ++ bs

/-- ALIGN appends 0 to 7 zero bits up to the next byte boundary, and nothing where the stream is aligned
(43_bit_serializer.md R191). -/
def Obligations.AlignPadsWithZeros : Prop :=
  ∀ z : Serializer, z.wf → z.bitpos + 8 < 2 ^ 64 →
    ∃ w, align z = .ok w ∧ w.wf ∧ w.nb = 0 ∧ w.acc = 0 ∧
      w.stream = z.stream ++ List.replicate ((8 - z.nb.toNat) % 8) false ∧ (z.nb = 0 → w = z)

/-- PUT_BYTES on an aligned stream appends the bytes (43_bit_serializer.md R192); on one that is not, it is refused
(93_implementation_defined.md U5). -/
def Obligations.PutBytesAppendsBytes : Prop :=
  ∀ (z : Serializer) (bs : List Byte), z.wf →
    (z.nb = 0 → z.bitpos + 8 * bs.length < 2 ^ 64 →
      ∃ w, putBytes bs z = .ok w ∧ w.wf ∧ w.out = z.out ++ bs ∧ w.acc = z.acc ∧ w.nb = z.nb ∧
        w.bitpos = z.bitpos + 8 * bs.length ∧ w.stream = z.stream ++ byteBits bs) ∧
    (z.nb ≠ 0 → putBytes bs z = .error .serializerPrecondition)

/-! ### The rows of the output formats -/

/-- Every literal, end-of-block, length and distance row, in `EMITTING`, sends its symbol's code and then its extra bits, and
changes nothing but the serializer (30_encoding.md R86, R87, R90; 42_block_coordinator.md R160). That the row is a step of
its own, and how it finds the block's codes, are the model's choice (logs 2 and 3). -/
def Obligations.SymbolRowsSendTheirCode : Prop :=
  ∀ (s : State) (z : Sizing) (i : Instr) (fs : List BitField), s.phase = .emitting → s.ser.wf → s.sizing = .ok z →
    symbolFields (s.blockCodes z) i = some fs → s.ser.bitpos + 64 < 2 ^ 64 →
    ∃ w, exec i s = .next { s with ser := w } ∧ w.wf ∧ w.stream = s.ser.stream ++ fieldBits fs

/-- Every code-length row, in `EMITTING`, sends its symbol's code and then its extra bits, and changes nothing but
the serializer (30_encoding.md R88, R96). Logs 2 and 3, as above. -/
def Obligations.CodeLengthRowsSendTheirCode : Prop :=
  ∀ (s : State) (z : Sizing) (i : Instr) (fs : List BitField), s.phase = .emitting → s.ser.wf → s.sizing = .ok z →
    codeLengthFields z.bl.table i = some fs → s.ser.bitpos + 64 < 2 ^ 64 →
    ∃ w, exec i s = .next { s with ser := w } ∧ w.wf ∧ w.stream = s.ser.stream ++ fieldBits fs

/-- Every static row, in `EMITTING`, sends its code most significant bit first, which is the static code of the
symbol it stands for, and changes nothing but the serializer (30_encoding.md R93, R94). Log 2. -/
def Obligations.StaticRowsSendTheirCode : Prop :=
  ∀ (s : State) (i : Instr) (f : BitField) (c n : Nat), s.phase = .emitting → s.ser.wf → i.wf = true →
    staticRow i = some (f, c, n) → s.ser.bitpos + 16 < 2 ^ 64 →
    f.bits = (bits c n).reverse ∧
    ∃ w, exec i s = .next { s with ser := w } ∧ w.wf ∧ w.stream = s.ser.stream ++ (bits c n).reverse

/-- In `EMITTING` the stored block rows write header, zero padding to a byte, `LEN`, its complement and the block's bytes, and change
nothing but the serializer (30_encoding.md R92, 42_block_coordinator.md R170). Log 2. -/
def Obligations.StoredRowsWriteStoredBlock : Prop :=
  ∀ (s : State) (final : Bool), s.phase = .emitting → s.ser.wf → s.blkStart ≤ s.p → s.p ≤ s.totalIn →
    s.blkLen ≤ 65535 → s.ser.bitpos + 42 + 8 * s.blkLen < 2 ^ 64 →
    ∃ w, exec (blockRow .stored final) s = .next { s with ser := w } ∧ w.wf ∧
      w.stream = s.ser.stream ++ bits final.toNat 3 ++ List.replicate ((13 - s.ser.nb.toNat) % 8) false ++
        bits s.blkLen 16 ++ bits (65535 - s.blkLen) 16 ++ byteBits ((s.window.drop s.blkStart).take s.blkLen)

/-- In `EMITTING` the static block rows write header, every queued token in order with the static codes, and the end-of-block code, and
change nothing but the serializer (30_encoding.md R95, 42_block_coordinator.md R171). Log 2. -/
def Obligations.StaticRowsWriteStaticBlock : Prop :=
  ∀ (s : State) (final : Bool), s.phase = .emitting → s.ser.wf → s.params.legal → (∀ e ∈ s.q, e.wf s.params) →
    s.ser.bitpos + 16 + 64 * s.qn < 2 ^ 64 →
    ∃ w, exec (blockRow .fixed final) s = .next { s with ser := w } ∧ w.wf ∧
      w.stream = s.ser.stream ++ bits (final.toNat + 2) 3 ++
        (s.q.flatMap fun e => fieldBits (tokenFields .fixed e.token)) ++ bits 0 7

/-- In `EMITTING` the dynamic block rows write header, the three counts, the code-length code's lengths in the fixed order, the two
tables' lengths run-length coded, every queued token in order and the end-of-block code, and change nothing but the
serializer (30_encoding.md R96, 42_block_coordinator.md R172). Logs 2 and 3. -/
def Obligations.DynamicRowsWriteDynamicBlock : Prop :=
  ∀ (s : State) (z : Sizing) (final : Bool), s.phase = .emitting → s.ser.wf → s.params.legal →
    (∀ e ∈ s.q, e.wf s.params) → s.lfreq.length = 286 → s.dfreq.length = 30 → s.blfreq.length = 19 →
    s.sizing = .ok z → s.ser.bitpos + 16384 + 64 * s.qn < 2 ^ 64 →
    ∃ w, exec (blockRow .dynamic final) s = .next { s with ser := w } ∧ w.wf ∧
      w.stream = s.ser.stream ++ bits (final.toNat + 4) 3 ++
        bits (z.l.num - 257) 5 ++ bits (z.d.num - 1) 5 ++ bits (z.hclen - 4) 4 ++
        ((blOrder.take z.hclen).flatMap fun c => bits (entry z.bl.table.len c) 3) ++
        ((rle (z.l.table.len.take z.l.num) ++ rle (z.d.table.len.take z.d.num)).flatMap fun c =>
          (z.bl.table.field c.sym).bits ++ bits c.ev c.eb) ++
        (s.q.flatMap fun e => fieldBits (tokenFields (.built z.l.table z.d.table) e.token)) ++
        (z.l.table.field 256).bits

/-- The reserved rows of the output formats are refused. The spec says that they are never produced and have no meaning
(30_encoding.md R91, 93_implementation_defined.md U10); that running one is refused is the model's reading (log 5). -/
def Obligations.ReservedRowsAreRefused : Prop :=
  ∀ (i : Instr) (s : State), reservedRow i = true → exec i s = .refused .reservedOutput

/-- Only a block under emission sends: outside `EMITTING`, so in every state between commands, in `DONE` and in `FAULT`, an
output row changes nothing (43_bit_serializer.md R194, 42_block_coordinator.md R160). That it is then without effect is the
model's reading (log 16). -/
def Obligations.ClosedRunSendsNothing : Prop :=
  ∀ (i : Instr) (s : State), (encode i).1 ≠ .cmdw → reservedRow i = false → s.phase ≠ .emitting → exec i s = .next s

/-! ### Encoding -/

/-- Decoding an encoded well-formed instruction gives it back, for every instruction and every operand
(30_encoding.md R80, R85 to R88, R93, R94; the place of the extra bits is the model's choice, log 2). -/
def Obligations.DecodeEncodeRoundTrip : Prop :=
  ∀ i : Instr, i.wf = true → decode (encode i).1 (encode i).2 = .ok i

/-- Each word of a format is at most one instruction's: what the decoder reads is well formed and encodes to that word
(30_encoding.md R80, R82, R85 to R88, R91, R93, R94; log 2). -/
def Obligations.EncodeDecodeRoundTrip : Prop :=
  ∀ (fmt : Format) (w : Word) (i : Instr), decode fmt w = .ok i → i.wf = true ∧ encode i = (fmt, w)

/-- Some words read as the opcode table writes them: STEP FINISH, SET_INPUT, a final static block, symbol 283 with extra
value 4, distance symbol 7, code-length symbol 18 with extra value 127, the static code of 0x41 (30_encoding.md R80, R85 to
R88, R93). The table writes the symbol number alone: that the extra value stands above it in the word is the model's choice
(log 2). -/
def Obligations.SampleWordsDecode : Prop :=
  decode .cmdw 0x00000023 = .ok (.step 2) ∧ decode .cmdw 0x00000001 = .ok .setInput ∧
  decode .bhdr 3 = .ok .blockStaticFinal ∧ decode .llsym 0x91B = .ok (.len283 4) ∧
  decode .dsym 0x07 = .ok (.dist7 0) ∧ decode .clsym 0xFF2 = .ok (.cl18 127) ∧
  decode (.static 8) 0x71 = .ok (.staticLl0To143 0x71)

/-! ### The step and the whole machine -/

/-- Outside an emission a step performs the host's next pending action and takes it off the list: a write of a word to
`CMD` runs the command it decodes to, and with nothing pending the core waits. In `EMITTING` a step runs the next element of
the block, which is the row its word decodes to, and after the last one it resets the block and returns to `ACCUMULATING`
(20_memory.md R68, 44_host_commands.md R200, 70_reset_and_hazards.md R251, 42_block_coordinator.md R160, R176; the two
lists are the model's, logs 1 and 2). -/
def Obligations.StepRunsTheNextAction : Prop :=
  ∀ s : State,
    (s.phase ≠ .emitting →
      (∀ w i rest, s.script = .write 0 4 w :: rest → decode .cmdw w = .ok i →
        step s = exec i { s with script := rest }) ∧
      (s.script = [] → step s = .next s)) ∧
    (s.phase = .emitting →
      (∀ fmt w i rest, s.emission = (fmt, w) :: rest → fmt ≠ .cmdw → decode fmt w = .ok i →
        step s = exec i { s with emission := rest }) ∧
      (s.emission = [] → step s = .next
        { s with
          phase := .accumulating, lfreq := List.replicate 286 0, dfreq := List.replicate 30 0
          blfreq := List.replicate 19 0, q := [], blkStart := s.p }))

/-- An instruction placed by `withFetchWord` is the one the very next step runs: a command in the state between commands as
it stands, an output row in the emission of the current block. Both are the model's choice (log 4). -/
def Obligations.PlacedWordRunsNext : Prop :=
  ∀ (s : State) (nbits w : Nat) (i : Instr), decodeTableWord nbits w = some i →
    ((encode i).1 = .cmdw → s.phase ≠ .emitting → step (s.withFetchWord nbits w) = exec i s) ∧
    ((encode i).1 ≠ .cmdw →
      step (s.withFetchWord nbits w) = exec i { s.enterEmission with emission := s.emission }) ∧
    s.enterEmission.phase = .emitting

/-- Only aligned 32-bit register accesses are defined; a read hands the register to the host (in `busData`, the model's own
field, log 14) and changes nothing else; the three operand registers take what is written, and every other register but
`CMD` ignores it. What each offset reads as: `RSTAT` with `ERR` in bit 0, `FCODE` in bits 7..4 and `PHASE` in bits 10..8, all
other bits 0; `RVAL`; the three operand registers; `FINFO`; `BITPOS` and `TOTAL_IN` as a low word and a high word; 0 at `CMD`
and at the reserved offsets (10_state.md R38, 20_memory.md R66, 93_implementation_defined.md U9). That any other access is
refused is log 13. -/
def Obligations.RegisterWindowBehaves : Prop :=
  ∀ (s : State) (off v : Word) (n : Nat),
    ((n ≠ 4 ∨ off.toNat % 4 ≠ 0) →
      perform (.write off n v) s = .refused .badAccess ∧ perform (.read off n) s = .refused .badAccess) ∧
    (off.toNat % 4 = 0 →
      (off = 0x0C → perform (.write off 4 v) s = .next { s with ibufSize := v }) ∧
      (off = 0x10 → perform (.write off 4 v) s = .next { s with argOff := v }) ∧
      (off = 0x14 → perform (.write off 4 v) s = .next { s with argLen := v }) ∧
      (off ≠ 0 → off ≠ 0x0C → off ≠ 0x10 → off ≠ 0x14 → perform (.write off 4 v) s = .next s) ∧
      ∃ r : Word, perform (.read off 4) s = .next { s with busData := r } ∧
        (off = 0x04 → r.getLsbD 0 = s.rerr ∧ r.toNat / 2 % 8 = 0 ∧ r.toNat / 16 % 16 = fcodeNumber s.fcode ∧
          r.toNat / 256 % 8 = phaseNumber s.phase ∧ r.toNat / 2048 = 0) ∧
        (off = 0x08 → r = s.rval) ∧ (off = 0x0C → r = s.ibufSize) ∧ (off = 0x10 → r = s.argOff) ∧
        (off = 0x14 → r = s.argLen) ∧ (off = 0x18 → r = s.finfo) ∧
        (off = 0x20 → r.toNat = s.ser.bitpos % 2 ^ 32) ∧ (off = 0x24 → r.toNat = s.ser.bitpos / 2 ^ 32 % 2 ^ 32) ∧
        (off = 0x28 → r.toNat = s.totalIn % 2 ^ 32) ∧ (off = 0x2C → r.toNat = s.totalIn / 2 ^ 32 % 2 ^ 32) ∧
        (off = 0 ∨ off = 0x1C ∨ 0x30 ≤ off.toNat → r = 0))

/-- The invariants hold right after power-on (10_state.md R39, R40). -/
def Obligations.ResetMeetsTheInvariant : Prop := State.reset.Inv

/-- Every step keeps the invariants that hold between commands: the phases, the serializer's counts, the checksum, the
stream positions, the tables and the queue, that nothing is left to send, and the canonical form of memory (10_state.md R21,
R27, R29, R34, R40). -/
def Obligations.EveryStepKeepsTheInvariant : Prop :=
  ∀ s t : State, s.Inv → step s = .next t → t.Inv

/-- No command or output row writes the host's side: `IBUF`, the operand registers, the pending actions; nor the
parameters of the instance (20_memory.md R62, 10_state.md R38, 70_reset_and_hazards.md R260). -/
def Obligations.CoreNeverWritesTheHostsSide : Prop :=
  ∀ (i : Instr) (s t : State), exec i s = .next t →
    t.ibuf = s.ibuf ∧ t.ibufSize = s.ibufSize ∧ t.argOff = s.argOff ∧ t.argLen = s.argLen ∧
    t.script = s.script ∧ t.busData = s.busData ∧ t.params = s.params

/-- `OUT` is append-only: whatever a step does, but for a reset, the bytes already in `OUT` stay. And the host cannot write
bits: outside an emission no action but a STEP, and no reset, touches the serializer (20_memory.md R63, 60_exceptions.md
R221, 43_bit_serializer.md R194). -/
def Obligations.OutputIsAppendOnly : Prop :=
  ∀ (s t : State) (a : HostAction) (rest : List HostAction), s.script = a :: rest → a.resets = false →
    step s = .next t → (∃ bs, t.ser.out = s.ser.out ++ bs) ∧ s.ser.bitpos ≤ t.ser.bitpos ∧
    (s.phase ≠ .emitting → (∀ fl : BitVec 2, a ≠ .write 0 4 (.ofNat 32 (3 + 16 * fl.toNat))) → t.ser = s.ser)

/-- There is no return from a fault but a reset: until then `PHASE`, `FCODE`, `FINFO`, the stream and the window stay as
they are (60_exceptions.md R222, R223; 10_state.md R22). -/
def Obligations.OnlyResetLeavesFault : Prop :=
  ∀ (s t : State) (a : HostAction) (rest : List HostAction), s.phase = .fault → s.script = a :: rest →
    step s = .next t →
    (a.resets = false → t.phase = .fault ∧ t.fcode = s.fcode ∧ t.finfo = s.finfo ∧ t.ser = s.ser ∧
      t.window = s.window ∧ t.p = s.p ∧ t.inLen = s.inLen ∧ t.q = s.q ∧ t.cksum = s.cksum) ∧
    (a.resets = true → t.phase = .accumulating ∧ t.fcode = .none ∧ t.finfo = 0)

/-- The phases a step may go through: it stays, it takes a fault, a reset brings `ACCUMULATING`, and `DONE` is entered only
from `ACCUMULATING` by a STEP with FINISH (10_state.md R21). -/
def Obligations.PhaseTransitionsAreThoseAllowed : Prop :=
  ∀ (s t : State) (a : HostAction) (rest : List HostAction), s.controlInv → s.script = a :: rest → step s = .next t →
    t.phase = s.phase ∨ t.phase = .fault ∨ (a.resets = true ∧ t.phase = .accumulating) ∨
    (s.phase = .accumulating ∧ t.phase = .done ∧ (a = .write 0 4 0x23 ∨ a = .write 0 4 0x33))

/-- The host's memory: a byte stored by the host is what FILL's read gives at that offset, every other offset reads as
before and nothing else changes (20_memory.md R60, R61); the store keeps the canonical form, and two memories in that form
that read the same everywhere are the same data. The form is the model's choice (log 8). -/
def Obligations.MemoryFormIsCanonical : Prop :=
  (∀ (s : State) (a : Word) (b : Byte), s.ibuf.wf →
    ∃ m, perform (.ibufWrite a b) s = .next { s with ibuf := m } ∧ m.wf ∧
      (let t := { s with ibuf := m }
       t.memRead a = b ∧ ∀ a', a' ≠ a → t.memRead a' = s.memRead a')) ∧
  ∀ m n : Memory, m.wf → n.wf → (∀ a, m.read a = n.read a) → m = n
end

