-- ==== Sys2Proof/Laws/State.lean ====
section
/-! SUPPORT. What each named update of the state does to each field: one lemma per field per update. -/

namespace Sys2Proof.Machine

/-! ### `respondOk` -/

@[simp] theorem respondOk_params (v : Word) (s : State) : (respondOk v s).params = s.params := rfl
@[simp] theorem respondOk_script (v : Word) (s : State) : (respondOk v s).script = s.script := rfl
@[simp] theorem respondOk_ibuf (v : Word) (s : State) : (respondOk v s).ibuf = s.ibuf := rfl
@[simp] theorem respondOk_busData (v : Word) (s : State) : (respondOk v s).busData = s.busData := rfl
@[simp] theorem respondOk_ibufSize (v : Word) (s : State) : (respondOk v s).ibufSize = s.ibufSize := rfl
@[simp] theorem respondOk_argOff (v : Word) (s : State) : (respondOk v s).argOff = s.argOff := rfl
@[simp] theorem respondOk_argLen (v : Word) (s : State) : (respondOk v s).argLen = s.argLen := rfl
@[simp] theorem respondOk_phase (v : Word) (s : State) : (respondOk v s).phase = s.phase := rfl
@[simp] theorem respondOk_fcode (v : Word) (s : State) : (respondOk v s).fcode = s.fcode := rfl
@[simp] theorem respondOk_finfo (v : Word) (s : State) : (respondOk v s).finfo = s.finfo := rfl
@[simp] theorem respondOk_flags (v : Word) (s : State) : (respondOk v s).flags = s.flags := rfl
@[simp] theorem respondOk_progress (v : Word) (s : State) : (respondOk v s).progress = s.progress := rfl
@[simp] theorem respondOk_rerr (v : Word) (s : State) : (respondOk v s).rerr = false := rfl
@[simp] theorem respondOk_rval (v : Word) (s : State) : (respondOk v s).rval = v := rfl
@[simp] theorem respondOk_inOff (v : Word) (s : State) : (respondOk v s).inOff = s.inOff := rfl
@[simp] theorem respondOk_inLen (v : Word) (s : State) : (respondOk v s).inLen = s.inLen := rfl
@[simp] theorem respondOk_p (v : Word) (s : State) : (respondOk v s).p = s.p := rfl
@[simp] theorem respondOk_blkStart (v : Word) (s : State) : (respondOk v s).blkStart = s.blkStart := rfl
@[simp] theorem respondOk_window (v : Word) (s : State) : (respondOk v s).window = s.window := rfl
@[simp] theorem respondOk_cksum (v : Word) (s : State) : (respondOk v s).cksum = s.cksum := rfl
@[simp] theorem respondOk_lfreq (v : Word) (s : State) : (respondOk v s).lfreq = s.lfreq := rfl
@[simp] theorem respondOk_dfreq (v : Word) (s : State) : (respondOk v s).dfreq = s.dfreq := rfl
@[simp] theorem respondOk_blfreq (v : Word) (s : State) : (respondOk v s).blfreq = s.blfreq := rfl
@[simp] theorem respondOk_q (v : Word) (s : State) : (respondOk v s).q = s.q := rfl
@[simp] theorem respondOk_ser (v : Word) (s : State) : (respondOk v s).ser = s.ser := rfl
@[simp] theorem respondOk_emission (v : Word) (s : State) : (respondOk v s).emission = s.emission := rfl
@[simp] theorem respondOk_free (v : Word) (s : State) : (respondOk v s).free = s.free := rfl

/-! ### `respondErr` -/

@[simp] theorem respondErr_params (c : FCode) (s : State) : (respondErr c s).params = s.params := rfl
@[simp] theorem respondErr_script (c : FCode) (s : State) : (respondErr c s).script = s.script := rfl
@[simp] theorem respondErr_ibuf (c : FCode) (s : State) : (respondErr c s).ibuf = s.ibuf := rfl
@[simp] theorem respondErr_busData (c : FCode) (s : State) : (respondErr c s).busData = s.busData := rfl
@[simp] theorem respondErr_ibufSize (c : FCode) (s : State) : (respondErr c s).ibufSize = s.ibufSize := rfl
@[simp] theorem respondErr_argOff (c : FCode) (s : State) : (respondErr c s).argOff = s.argOff := rfl
@[simp] theorem respondErr_argLen (c : FCode) (s : State) : (respondErr c s).argLen = s.argLen := rfl
@[simp] theorem respondErr_phase (c : FCode) (s : State) : (respondErr c s).phase = s.phase := rfl
@[simp] theorem respondErr_fcode (c : FCode) (s : State) : (respondErr c s).fcode = s.fcode := rfl
@[simp] theorem respondErr_finfo (c : FCode) (s : State) : (respondErr c s).finfo = s.finfo := rfl
@[simp] theorem respondErr_flags (c : FCode) (s : State) : (respondErr c s).flags = s.flags := rfl
@[simp] theorem respondErr_progress (c : FCode) (s : State) : (respondErr c s).progress = s.progress := rfl
@[simp] theorem respondErr_rerr (c : FCode) (s : State) : (respondErr c s).rerr = true := rfl
@[simp] theorem respondErr_rval (c : FCode) (s : State) : (respondErr c s).rval = .ofNat 32 c.code := rfl
@[simp] theorem respondErr_inOff (c : FCode) (s : State) : (respondErr c s).inOff = s.inOff := rfl
@[simp] theorem respondErr_inLen (c : FCode) (s : State) : (respondErr c s).inLen = s.inLen := rfl
@[simp] theorem respondErr_p (c : FCode) (s : State) : (respondErr c s).p = s.p := rfl
@[simp] theorem respondErr_blkStart (c : FCode) (s : State) : (respondErr c s).blkStart = s.blkStart := rfl
@[simp] theorem respondErr_window (c : FCode) (s : State) : (respondErr c s).window = s.window := rfl
@[simp] theorem respondErr_cksum (c : FCode) (s : State) : (respondErr c s).cksum = s.cksum := rfl
@[simp] theorem respondErr_lfreq (c : FCode) (s : State) : (respondErr c s).lfreq = s.lfreq := rfl
@[simp] theorem respondErr_dfreq (c : FCode) (s : State) : (respondErr c s).dfreq = s.dfreq := rfl
@[simp] theorem respondErr_blfreq (c : FCode) (s : State) : (respondErr c s).blfreq = s.blfreq := rfl
@[simp] theorem respondErr_q (c : FCode) (s : State) : (respondErr c s).q = s.q := rfl
@[simp] theorem respondErr_ser (c : FCode) (s : State) : (respondErr c s).ser = s.ser := rfl
@[simp] theorem respondErr_emission (c : FCode) (s : State) : (respondErr c s).emission = s.emission := rfl
@[simp] theorem respondErr_free (c : FCode) (s : State) : (respondErr c s).free = s.free := rfl

/-! ### `raiseFault` -/

@[simp] theorem raiseFault_params (c : FCode) (v : Word) (s : State) : (raiseFault c v s).params = s.params := rfl
@[simp] theorem raiseFault_script (c : FCode) (v : Word) (s : State) : (raiseFault c v s).script = s.script := rfl
@[simp] theorem raiseFault_ibuf (c : FCode) (v : Word) (s : State) : (raiseFault c v s).ibuf = s.ibuf := rfl
@[simp] theorem raiseFault_busData (c : FCode) (v : Word) (s : State) : (raiseFault c v s).busData = s.busData := rfl
@[simp] theorem raiseFault_ibufSize (c : FCode) (v : Word) (s : State) : (raiseFault c v s).ibufSize = s.ibufSize := rfl
@[simp] theorem raiseFault_argOff (c : FCode) (v : Word) (s : State) : (raiseFault c v s).argOff = s.argOff := rfl
@[simp] theorem raiseFault_argLen (c : FCode) (v : Word) (s : State) : (raiseFault c v s).argLen = s.argLen := rfl
@[simp] theorem raiseFault_phase (c : FCode) (v : Word) (s : State) : (raiseFault c v s).phase = .fault := rfl
@[simp] theorem raiseFault_fcode (c : FCode) (v : Word) (s : State) : (raiseFault c v s).fcode = c := rfl
@[simp] theorem raiseFault_finfo (c : FCode) (v : Word) (s : State) : (raiseFault c v s).finfo = v := rfl
@[simp] theorem raiseFault_flags (c : FCode) (v : Word) (s : State) : (raiseFault c v s).flags = s.flags := rfl
@[simp] theorem raiseFault_progress (c : FCode) (v : Word) (s : State) : (raiseFault c v s).progress = s.progress := rfl
@[simp] theorem raiseFault_rerr (c : FCode) (v : Word) (s : State) : (raiseFault c v s).rerr = true := rfl
@[simp] theorem raiseFault_rval (c : FCode) (v : Word) (s : State) : (raiseFault c v s).rval = .ofNat 32 c.code := rfl
@[simp] theorem raiseFault_inOff (c : FCode) (v : Word) (s : State) : (raiseFault c v s).inOff = s.inOff := rfl
@[simp] theorem raiseFault_inLen (c : FCode) (v : Word) (s : State) : (raiseFault c v s).inLen = s.inLen := rfl
@[simp] theorem raiseFault_p (c : FCode) (v : Word) (s : State) : (raiseFault c v s).p = s.p := rfl
@[simp] theorem raiseFault_blkStart (c : FCode) (v : Word) (s : State) : (raiseFault c v s).blkStart = s.blkStart := rfl
@[simp] theorem raiseFault_window (c : FCode) (v : Word) (s : State) : (raiseFault c v s).window = s.window := rfl
@[simp] theorem raiseFault_cksum (c : FCode) (v : Word) (s : State) : (raiseFault c v s).cksum = s.cksum := rfl
@[simp] theorem raiseFault_lfreq (c : FCode) (v : Word) (s : State) : (raiseFault c v s).lfreq = s.lfreq := rfl
@[simp] theorem raiseFault_dfreq (c : FCode) (v : Word) (s : State) : (raiseFault c v s).dfreq = s.dfreq := rfl
@[simp] theorem raiseFault_blfreq (c : FCode) (v : Word) (s : State) : (raiseFault c v s).blfreq = s.blfreq := rfl
@[simp] theorem raiseFault_q (c : FCode) (v : Word) (s : State) : (raiseFault c v s).q = s.q := rfl
@[simp] theorem raiseFault_ser (c : FCode) (v : Word) (s : State) : (raiseFault c v s).ser = s.ser := rfl
@[simp] theorem raiseFault_emission (c : FCode) (v : Word) (s : State) : (raiseFault c v s).emission = s.emission := rfl
@[simp] theorem raiseFault_free (c : FCode) (v : Word) (s : State) : (raiseFault c v s).free = s.free := rfl

/-! ### `advance` -/

@[simp] theorem advance_params (t : Token) (s : State) : (advance t s).params = s.params := rfl
@[simp] theorem advance_script (t : Token) (s : State) : (advance t s).script = s.script := rfl
@[simp] theorem advance_ibuf (t : Token) (s : State) : (advance t s).ibuf = s.ibuf := rfl
@[simp] theorem advance_busData (t : Token) (s : State) : (advance t s).busData = s.busData := rfl
@[simp] theorem advance_ibufSize (t : Token) (s : State) : (advance t s).ibufSize = s.ibufSize := rfl
@[simp] theorem advance_argOff (t : Token) (s : State) : (advance t s).argOff = s.argOff := rfl
@[simp] theorem advance_argLen (t : Token) (s : State) : (advance t s).argLen = s.argLen := rfl
@[simp] theorem advance_phase (t : Token) (s : State) : (advance t s).phase = s.phase := rfl
@[simp] theorem advance_fcode (t : Token) (s : State) : (advance t s).fcode = s.fcode := rfl
@[simp] theorem advance_finfo (t : Token) (s : State) : (advance t s).finfo = s.finfo := rfl
@[simp] theorem advance_flags (t : Token) (s : State) : (advance t s).flags = s.flags := rfl
@[simp] theorem advance_progress (t : Token) (s : State) : (advance t s).progress = s.progress := rfl
@[simp] theorem advance_rerr (t : Token) (s : State) : (advance t s).rerr = s.rerr := rfl
@[simp] theorem advance_rval (t : Token) (s : State) : (advance t s).rval = s.rval := rfl
@[simp] theorem advance_inOff (t : Token) (s : State) : (advance t s).inOff = s.inOff := rfl
@[simp] theorem advance_inLen (t : Token) (s : State) : (advance t s).inLen = s.inLen := rfl
@[simp] theorem advance_p (t : Token) (s : State) : (advance t s).p = s.p + t.span := rfl
@[simp] theorem advance_blkStart (t : Token) (s : State) : (advance t s).blkStart = s.blkStart := rfl
@[simp] theorem advance_window (t : Token) (s : State) : (advance t s).window = s.window := rfl
@[simp] theorem advance_cksum (t : Token) (s : State) : (advance t s).cksum = s.cksum := rfl
@[simp] theorem advance_lfreq (t : Token) (s : State) : (advance t s).lfreq = s.lfreq := rfl
@[simp] theorem advance_dfreq (t : Token) (s : State) : (advance t s).dfreq = s.dfreq := rfl
@[simp] theorem advance_blfreq (t : Token) (s : State) : (advance t s).blfreq = s.blfreq := rfl
@[simp] theorem advance_q (t : Token) (s : State) : (advance t s).q = s.q := rfl
@[simp] theorem advance_ser (t : Token) (s : State) : (advance t s).ser = s.ser := rfl
@[simp] theorem advance_emission (t : Token) (s : State) : (advance t s).emission = s.emission := rfl
@[simp] theorem advance_free (t : Token) (s : State) : (advance t s).free = s.free := rfl

/-! ### `beginStep` -/

@[simp] theorem beginStep_params (s : State) (fl : BitVec 2) : (s.beginStep fl).params = s.params := rfl
@[simp] theorem beginStep_script (s : State) (fl : BitVec 2) : (s.beginStep fl).script = s.script := rfl
@[simp] theorem beginStep_ibuf (s : State) (fl : BitVec 2) : (s.beginStep fl).ibuf = s.ibuf := rfl
@[simp] theorem beginStep_busData (s : State) (fl : BitVec 2) : (s.beginStep fl).busData = s.busData := rfl
@[simp] theorem beginStep_ibufSize (s : State) (fl : BitVec 2) : (s.beginStep fl).ibufSize = s.ibufSize := rfl
@[simp] theorem beginStep_argOff (s : State) (fl : BitVec 2) : (s.beginStep fl).argOff = s.argOff := rfl
@[simp] theorem beginStep_argLen (s : State) (fl : BitVec 2) : (s.beginStep fl).argLen = s.argLen := rfl
@[simp] theorem beginStep_phase (s : State) (fl : BitVec 2) : (s.beginStep fl).phase = s.phase := rfl
@[simp] theorem beginStep_fcode (s : State) (fl : BitVec 2) : (s.beginStep fl).fcode = s.fcode := rfl
@[simp] theorem beginStep_finfo (s : State) (fl : BitVec 2) : (s.beginStep fl).finfo = s.finfo := rfl
@[simp] theorem beginStep_flags (s : State) (fl : BitVec 2) : (s.beginStep fl).flags = fl := rfl
@[simp] theorem beginStep_progress (s : State) (fl : BitVec 2) : (s.beginStep fl).progress = false := rfl
@[simp] theorem beginStep_rerr (s : State) (fl : BitVec 2) : (s.beginStep fl).rerr = s.rerr := rfl
@[simp] theorem beginStep_rval (s : State) (fl : BitVec 2) : (s.beginStep fl).rval = s.rval := rfl
@[simp] theorem beginStep_inOff (s : State) (fl : BitVec 2) : (s.beginStep fl).inOff = s.inOff := rfl
@[simp] theorem beginStep_inLen (s : State) (fl : BitVec 2) : (s.beginStep fl).inLen = s.inLen := rfl
@[simp] theorem beginStep_p (s : State) (fl : BitVec 2) : (s.beginStep fl).p = s.p := rfl
@[simp] theorem beginStep_blkStart (s : State) (fl : BitVec 2) : (s.beginStep fl).blkStart = s.blkStart := rfl
@[simp] theorem beginStep_window (s : State) (fl : BitVec 2) : (s.beginStep fl).window = s.window := rfl
@[simp] theorem beginStep_cksum (s : State) (fl : BitVec 2) : (s.beginStep fl).cksum = s.cksum := rfl
@[simp] theorem beginStep_lfreq (s : State) (fl : BitVec 2) : (s.beginStep fl).lfreq = s.lfreq := rfl
@[simp] theorem beginStep_dfreq (s : State) (fl : BitVec 2) : (s.beginStep fl).dfreq = s.dfreq := rfl
@[simp] theorem beginStep_blfreq (s : State) (fl : BitVec 2) : (s.beginStep fl).blfreq = s.blfreq := rfl
@[simp] theorem beginStep_q (s : State) (fl : BitVec 2) : (s.beginStep fl).q = s.q := rfl
@[simp] theorem beginStep_ser (s : State) (fl : BitVec 2) : (s.beginStep fl).ser = s.ser := rfl
@[simp] theorem beginStep_emission (s : State) (fl : BitVec 2) : (s.beginStep fl).emission = s.emission := rfl
@[simp] theorem beginStep_free (s : State) (fl : BitVec 2) : (s.beginStep fl).free = s.free := rfl

/-! ### `beginSizing` -/

@[simp] theorem beginSizing_params (s : State) : (s.beginSizing).params = s.params := rfl
@[simp] theorem beginSizing_script (s : State) : (s.beginSizing).script = s.script := rfl
@[simp] theorem beginSizing_ibuf (s : State) : (s.beginSizing).ibuf = s.ibuf := rfl
@[simp] theorem beginSizing_busData (s : State) : (s.beginSizing).busData = s.busData := rfl
@[simp] theorem beginSizing_ibufSize (s : State) : (s.beginSizing).ibufSize = s.ibufSize := rfl
@[simp] theorem beginSizing_argOff (s : State) : (s.beginSizing).argOff = s.argOff := rfl
@[simp] theorem beginSizing_argLen (s : State) : (s.beginSizing).argLen = s.argLen := rfl
@[simp] theorem beginSizing_phase (s : State) : (s.beginSizing).phase = .sizing := rfl
@[simp] theorem beginSizing_fcode (s : State) : (s.beginSizing).fcode = s.fcode := rfl
@[simp] theorem beginSizing_finfo (s : State) : (s.beginSizing).finfo = s.finfo := rfl
@[simp] theorem beginSizing_flags (s : State) : (s.beginSizing).flags = s.flags := rfl
@[simp] theorem beginSizing_progress (s : State) : (s.beginSizing).progress = s.progress := rfl
@[simp] theorem beginSizing_rerr (s : State) : (s.beginSizing).rerr = s.rerr := rfl
@[simp] theorem beginSizing_rval (s : State) : (s.beginSizing).rval = s.rval := rfl
@[simp] theorem beginSizing_inOff (s : State) : (s.beginSizing).inOff = s.inOff := rfl
@[simp] theorem beginSizing_inLen (s : State) : (s.beginSizing).inLen = s.inLen := rfl
@[simp] theorem beginSizing_p (s : State) : (s.beginSizing).p = s.p := rfl
@[simp] theorem beginSizing_blkStart (s : State) : (s.beginSizing).blkStart = s.blkStart := rfl
@[simp] theorem beginSizing_window (s : State) : (s.beginSizing).window = s.window := rfl
@[simp] theorem beginSizing_cksum (s : State) : (s.beginSizing).cksum = s.cksum := rfl
@[simp] theorem beginSizing_lfreq (s : State) : (s.beginSizing).lfreq = tallyEob s.lfreq := rfl
@[simp] theorem beginSizing_dfreq (s : State) : (s.beginSizing).dfreq = s.dfreq := rfl
@[simp] theorem beginSizing_blfreq (s : State) : (s.beginSizing).blfreq = s.blfreq := rfl
@[simp] theorem beginSizing_q (s : State) : (s.beginSizing).q = s.q := rfl
@[simp] theorem beginSizing_ser (s : State) : (s.beginSizing).ser = s.ser := rfl
@[simp] theorem beginSizing_emission (s : State) : (s.beginSizing).emission = s.emission := rfl
@[simp] theorem beginSizing_free (s : State) : (s.beginSizing).free = s.free := rfl

/-! ### `clearedBlock` -/

@[simp] theorem clearedBlock_params (s : State) : (s.clearedBlock).params = s.params := rfl
@[simp] theorem clearedBlock_script (s : State) : (s.clearedBlock).script = s.script := rfl
@[simp] theorem clearedBlock_ibuf (s : State) : (s.clearedBlock).ibuf = s.ibuf := rfl
@[simp] theorem clearedBlock_busData (s : State) : (s.clearedBlock).busData = s.busData := rfl
@[simp] theorem clearedBlock_ibufSize (s : State) : (s.clearedBlock).ibufSize = s.ibufSize := rfl
@[simp] theorem clearedBlock_argOff (s : State) : (s.clearedBlock).argOff = s.argOff := rfl
@[simp] theorem clearedBlock_argLen (s : State) : (s.clearedBlock).argLen = s.argLen := rfl
@[simp] theorem clearedBlock_phase (s : State) : (s.clearedBlock).phase = s.phase := rfl
@[simp] theorem clearedBlock_fcode (s : State) : (s.clearedBlock).fcode = s.fcode := rfl
@[simp] theorem clearedBlock_finfo (s : State) : (s.clearedBlock).finfo = s.finfo := rfl
@[simp] theorem clearedBlock_flags (s : State) : (s.clearedBlock).flags = s.flags := rfl
@[simp] theorem clearedBlock_progress (s : State) : (s.clearedBlock).progress = s.progress := rfl
@[simp] theorem clearedBlock_rerr (s : State) : (s.clearedBlock).rerr = s.rerr := rfl
@[simp] theorem clearedBlock_rval (s : State) : (s.clearedBlock).rval = s.rval := rfl
@[simp] theorem clearedBlock_inOff (s : State) : (s.clearedBlock).inOff = s.inOff := rfl
@[simp] theorem clearedBlock_inLen (s : State) : (s.clearedBlock).inLen = s.inLen := rfl
@[simp] theorem clearedBlock_p (s : State) : (s.clearedBlock).p = s.p := rfl
@[simp] theorem clearedBlock_blkStart (s : State) : (s.clearedBlock).blkStart = s.p := rfl
@[simp] theorem clearedBlock_window (s : State) : (s.clearedBlock).window = s.window := rfl
@[simp] theorem clearedBlock_cksum (s : State) : (s.clearedBlock).cksum = s.cksum := rfl
@[simp] theorem clearedBlock_lfreq (s : State) : (s.clearedBlock).lfreq = List.replicate Config.lCodes 0 := rfl
@[simp] theorem clearedBlock_dfreq (s : State) : (s.clearedBlock).dfreq = List.replicate Config.dCodes 0 := rfl
@[simp] theorem clearedBlock_blfreq (s : State) : (s.clearedBlock).blfreq = List.replicate Config.blCodes 0 := rfl
@[simp] theorem clearedBlock_q (s : State) : (s.clearedBlock).q = [] := rfl
@[simp] theorem clearedBlock_ser (s : State) : (s.clearedBlock).ser = s.ser := rfl
@[simp] theorem clearedBlock_emission (s : State) : (s.clearedBlock).emission = s.emission := rfl
@[simp] theorem clearedBlock_free (s : State) : (s.clearedBlock).free = s.free := rfl

/-! ### `beginEmitting` -/

@[simp] theorem beginEmitting_params (s : State) (z : Sizing) : (s.beginEmitting z).params = s.params := rfl
@[simp] theorem beginEmitting_script (s : State) (z : Sizing) : (s.beginEmitting z).script = s.script := rfl
@[simp] theorem beginEmitting_ibuf (s : State) (z : Sizing) : (s.beginEmitting z).ibuf = s.ibuf := rfl
@[simp] theorem beginEmitting_busData (s : State) (z : Sizing) : (s.beginEmitting z).busData = s.busData := rfl
@[simp] theorem beginEmitting_ibufSize (s : State) (z : Sizing) : (s.beginEmitting z).ibufSize = s.ibufSize := rfl
@[simp] theorem beginEmitting_argOff (s : State) (z : Sizing) : (s.beginEmitting z).argOff = s.argOff := rfl
@[simp] theorem beginEmitting_argLen (s : State) (z : Sizing) : (s.beginEmitting z).argLen = s.argLen := rfl
@[simp] theorem beginEmitting_phase (s : State) (z : Sizing) : (s.beginEmitting z).phase = .emitting := rfl
@[simp] theorem beginEmitting_fcode (s : State) (z : Sizing) : (s.beginEmitting z).fcode = s.fcode := rfl
@[simp] theorem beginEmitting_finfo (s : State) (z : Sizing) : (s.beginEmitting z).finfo = s.finfo := rfl
@[simp] theorem beginEmitting_flags (s : State) (z : Sizing) : (s.beginEmitting z).flags = s.flags := rfl
@[simp] theorem beginEmitting_progress (s : State) (z : Sizing) : (s.beginEmitting z).progress = s.progress := rfl
@[simp] theorem beginEmitting_rerr (s : State) (z : Sizing) : (s.beginEmitting z).rerr = s.rerr := rfl
@[simp] theorem beginEmitting_rval (s : State) (z : Sizing) : (s.beginEmitting z).rval = s.rval := rfl
@[simp] theorem beginEmitting_inOff (s : State) (z : Sizing) : (s.beginEmitting z).inOff = s.inOff := rfl
@[simp] theorem beginEmitting_inLen (s : State) (z : Sizing) : (s.beginEmitting z).inLen = s.inLen := rfl
@[simp] theorem beginEmitting_p (s : State) (z : Sizing) : (s.beginEmitting z).p = s.p := rfl
@[simp] theorem beginEmitting_blkStart (s : State) (z : Sizing) : (s.beginEmitting z).blkStart = s.blkStart := rfl
@[simp] theorem beginEmitting_window (s : State) (z : Sizing) : (s.beginEmitting z).window = s.window := rfl
@[simp] theorem beginEmitting_cksum (s : State) (z : Sizing) : (s.beginEmitting z).cksum = s.cksum := rfl
@[simp] theorem beginEmitting_lfreq (s : State) (z : Sizing) : (s.beginEmitting z).lfreq = s.lfreq := rfl
@[simp] theorem beginEmitting_dfreq (s : State) (z : Sizing) : (s.beginEmitting z).dfreq = s.dfreq := rfl
@[simp] theorem beginEmitting_blfreq (s : State) (z : Sizing) : (s.beginEmitting z).blfreq = z.blfreq := rfl
@[simp] theorem beginEmitting_q (s : State) (z : Sizing) : (s.beginEmitting z).q = s.q := rfl
@[simp] theorem beginEmitting_ser (s : State) (z : Sizing) : (s.beginEmitting z).ser = s.ser := rfl
@[simp] theorem beginEmitting_emission (s : State) (z : Sizing) : (s.beginEmitting z).emission = s.emission := rfl
@[simp] theorem beginEmitting_free (s : State) (z : Sizing) : (s.beginEmitting z).free = s.free := rfl

/-! ### `powerOnReset` -/

@[simp] theorem powerOnReset_params (s : State) : (powerOnReset s).params = s.params := rfl
@[simp] theorem powerOnReset_script (s : State) : (powerOnReset s).script = s.script := rfl
@[simp] theorem powerOnReset_ibuf (s : State) : (powerOnReset s).ibuf = s.ibuf := rfl
@[simp] theorem powerOnReset_busData (s : State) : (powerOnReset s).busData = s.busData := rfl
@[simp] theorem powerOnReset_ibufSize (s : State) : (powerOnReset s).ibufSize = State.reset.ibufSize := rfl
@[simp] theorem powerOnReset_argOff (s : State) : (powerOnReset s).argOff = State.reset.argOff := rfl
@[simp] theorem powerOnReset_argLen (s : State) : (powerOnReset s).argLen = State.reset.argLen := rfl
@[simp] theorem powerOnReset_phase (s : State) : (powerOnReset s).phase = State.reset.phase := rfl
@[simp] theorem powerOnReset_fcode (s : State) : (powerOnReset s).fcode = State.reset.fcode := rfl
@[simp] theorem powerOnReset_finfo (s : State) : (powerOnReset s).finfo = State.reset.finfo := rfl
@[simp] theorem powerOnReset_flags (s : State) : (powerOnReset s).flags = State.reset.flags := rfl
@[simp] theorem powerOnReset_progress (s : State) : (powerOnReset s).progress = State.reset.progress := rfl
@[simp] theorem powerOnReset_rerr (s : State) : (powerOnReset s).rerr = State.reset.rerr := rfl
@[simp] theorem powerOnReset_rval (s : State) : (powerOnReset s).rval = State.reset.rval := rfl
@[simp] theorem powerOnReset_inOff (s : State) : (powerOnReset s).inOff = State.reset.inOff := rfl
@[simp] theorem powerOnReset_inLen (s : State) : (powerOnReset s).inLen = State.reset.inLen := rfl
@[simp] theorem powerOnReset_p (s : State) : (powerOnReset s).p = State.reset.p := rfl
@[simp] theorem powerOnReset_blkStart (s : State) : (powerOnReset s).blkStart = State.reset.blkStart := rfl
@[simp] theorem powerOnReset_window (s : State) : (powerOnReset s).window = State.reset.window := rfl
@[simp] theorem powerOnReset_cksum (s : State) : (powerOnReset s).cksum = State.reset.cksum := rfl
@[simp] theorem powerOnReset_lfreq (s : State) : (powerOnReset s).lfreq = State.reset.lfreq := rfl
@[simp] theorem powerOnReset_dfreq (s : State) : (powerOnReset s).dfreq = State.reset.dfreq := rfl
@[simp] theorem powerOnReset_blfreq (s : State) : (powerOnReset s).blfreq = State.reset.blfreq := rfl
@[simp] theorem powerOnReset_q (s : State) : (powerOnReset s).q = State.reset.q := rfl
@[simp] theorem powerOnReset_ser (s : State) : (powerOnReset s).ser = State.reset.ser := rfl
@[simp] theorem powerOnReset_emission (s : State) : (powerOnReset s).emission = State.reset.emission := rfl
@[simp] theorem powerOnReset_free (s : State) : (powerOnReset s).free = s.free := rfl

/-! ### `commandReset` -/

@[simp] theorem commandReset_params (s : State) : (commandReset s).params = s.params := rfl
@[simp] theorem commandReset_script (s : State) : (commandReset s).script = s.script := rfl
@[simp] theorem commandReset_ibuf (s : State) : (commandReset s).ibuf = s.ibuf := rfl
@[simp] theorem commandReset_busData (s : State) : (commandReset s).busData = s.busData := rfl
@[simp] theorem commandReset_ibufSize (s : State) : (commandReset s).ibufSize = s.ibufSize := rfl
@[simp] theorem commandReset_argOff (s : State) : (commandReset s).argOff = s.argOff := rfl
@[simp] theorem commandReset_argLen (s : State) : (commandReset s).argLen = s.argLen := rfl
@[simp] theorem commandReset_phase (s : State) : (commandReset s).phase = State.reset.phase := rfl
@[simp] theorem commandReset_fcode (s : State) : (commandReset s).fcode = State.reset.fcode := rfl
@[simp] theorem commandReset_finfo (s : State) : (commandReset s).finfo = State.reset.finfo := rfl
@[simp] theorem commandReset_flags (s : State) : (commandReset s).flags = State.reset.flags := rfl
@[simp] theorem commandReset_progress (s : State) : (commandReset s).progress = State.reset.progress := rfl
@[simp] theorem commandReset_rerr (s : State) : (commandReset s).rerr = State.reset.rerr := rfl
@[simp] theorem commandReset_rval (s : State) : (commandReset s).rval = State.reset.rval := rfl
@[simp] theorem commandReset_inOff (s : State) : (commandReset s).inOff = State.reset.inOff := rfl
@[simp] theorem commandReset_inLen (s : State) : (commandReset s).inLen = State.reset.inLen := rfl
@[simp] theorem commandReset_p (s : State) : (commandReset s).p = State.reset.p := rfl
@[simp] theorem commandReset_blkStart (s : State) : (commandReset s).blkStart = State.reset.blkStart := rfl
@[simp] theorem commandReset_window (s : State) : (commandReset s).window = State.reset.window := rfl
@[simp] theorem commandReset_cksum (s : State) : (commandReset s).cksum = State.reset.cksum := rfl
@[simp] theorem commandReset_lfreq (s : State) : (commandReset s).lfreq = State.reset.lfreq := rfl
@[simp] theorem commandReset_dfreq (s : State) : (commandReset s).dfreq = State.reset.dfreq := rfl
@[simp] theorem commandReset_blfreq (s : State) : (commandReset s).blfreq = State.reset.blfreq := rfl
@[simp] theorem commandReset_q (s : State) : (commandReset s).q = State.reset.q := rfl
@[simp] theorem commandReset_ser (s : State) : (commandReset s).ser = State.reset.ser := rfl
@[simp] theorem commandReset_emission (s : State) : (commandReset s).emission = State.reset.emission := rfl
@[simp] theorem commandReset_free (s : State) : (commandReset s).free = s.free := rfl

/-! ### `record` -/

@[simp] theorem record_params (t : Token) (s : State) : (record t s).params = s.params := by cases t <;> rfl
@[simp] theorem record_script (t : Token) (s : State) : (record t s).script = s.script := by cases t <;> rfl
@[simp] theorem record_ibuf (t : Token) (s : State) : (record t s).ibuf = s.ibuf := by cases t <;> rfl
@[simp] theorem record_busData (t : Token) (s : State) : (record t s).busData = s.busData := by cases t <;> rfl
@[simp] theorem record_ibufSize (t : Token) (s : State) : (record t s).ibufSize = s.ibufSize := by cases t <;> rfl
@[simp] theorem record_argOff (t : Token) (s : State) : (record t s).argOff = s.argOff := by cases t <;> rfl
@[simp] theorem record_argLen (t : Token) (s : State) : (record t s).argLen = s.argLen := by cases t <;> rfl
@[simp] theorem record_phase (t : Token) (s : State) : (record t s).phase = s.phase := by cases t <;> rfl
@[simp] theorem record_fcode (t : Token) (s : State) : (record t s).fcode = s.fcode := by cases t <;> rfl
@[simp] theorem record_finfo (t : Token) (s : State) : (record t s).finfo = s.finfo := by cases t <;> rfl
@[simp] theorem record_flags (t : Token) (s : State) : (record t s).flags = s.flags := by cases t <;> rfl
@[simp] theorem record_progress (t : Token) (s : State) : (record t s).progress = s.progress := by cases t <;> rfl
@[simp] theorem record_rerr (t : Token) (s : State) : (record t s).rerr = s.rerr := by cases t <;> rfl
@[simp] theorem record_rval (t : Token) (s : State) : (record t s).rval = s.rval := by cases t <;> rfl
@[simp] theorem record_inOff (t : Token) (s : State) : (record t s).inOff = s.inOff := by cases t <;> rfl
@[simp] theorem record_inLen (t : Token) (s : State) : (record t s).inLen = s.inLen := by cases t <;> rfl
@[simp] theorem record_p (t : Token) (s : State) : (record t s).p = s.p := by cases t <;> rfl
@[simp] theorem record_blkStart (t : Token) (s : State) : (record t s).blkStart = s.blkStart := by cases t <;> rfl
@[simp] theorem record_window (t : Token) (s : State) : (record t s).window = s.window := by cases t <;> rfl
@[simp] theorem record_cksum (t : Token) (s : State) : (record t s).cksum = s.cksum := by cases t <;> rfl
@[simp] theorem record_lfreq (t : Token) (s : State) : (record t s).lfreq = bump s.lfreq t.litSymbol := by cases t <;> rfl
theorem record_dfreq (t : Token) (s : State) :
    (record t s).dfreq = match t.distSymbol with | some c => bump s.dfreq c | none => s.dfreq := by
  cases t <;> rfl
@[simp] theorem record_blfreq (t : Token) (s : State) : (record t s).blfreq = s.blfreq := by cases t <;> rfl
@[simp] theorem record_q (t : Token) (s : State) : (record t s).q = s.q ++ [t.entry] := by cases t <;> rfl
@[simp] theorem record_ser (t : Token) (s : State) : (record t s).ser = s.ser := by cases t <;> rfl
@[simp] theorem record_emission (t : Token) (s : State) : (record t s).emission = s.emission := by cases t <;> rfl
@[simp] theorem record_free (t : Token) (s : State) : (record t s).free = s.free := by cases t <;> rfl

/-! ### `unspecifiedState`: what an internal fault leaves as it is -/

@[simp] theorem unspecifiedState_params (s : State) : (unspecifiedState s).params = s.params := rfl
@[simp] theorem unspecifiedState_script (s : State) : (unspecifiedState s).script = s.script := rfl
@[simp] theorem unspecifiedState_ibuf (s : State) : (unspecifiedState s).ibuf = s.ibuf := rfl
@[simp] theorem unspecifiedState_busData (s : State) : (unspecifiedState s).busData = s.busData := rfl
@[simp] theorem unspecifiedState_ibufSize (s : State) : (unspecifiedState s).ibufSize = s.ibufSize := rfl
@[simp] theorem unspecifiedState_argOff (s : State) : (unspecifiedState s).argOff = s.argOff := rfl
@[simp] theorem unspecifiedState_argLen (s : State) : (unspecifiedState s).argLen = s.argLen := rfl
@[simp] theorem unspecifiedState_phase (s : State) : (unspecifiedState s).phase = s.phase := rfl
@[simp] theorem unspecifiedState_fcode (s : State) : (unspecifiedState s).fcode = s.fcode := rfl
@[simp] theorem unspecifiedState_finfo (s : State) : (unspecifiedState s).finfo = s.finfo := rfl
@[simp] theorem unspecifiedState_rerr (s : State) : (unspecifiedState s).rerr = s.rerr := rfl
@[simp] theorem unspecifiedState_rval (s : State) : (unspecifiedState s).rval = s.rval := rfl
@[simp] theorem unspecifiedState_emission (s : State) : (unspecifiedState s).emission = [] := rfl
@[simp] theorem unspecifiedState_out (s : State) : (unspecifiedState s).ser.out = s.ser.out := rfl
@[simp] theorem unspecifiedState_bitpos (s : State) : (unspecifiedState s).ser.bitpos = s.ser.bitpos := rfl
@[simp] theorem unspecifiedState_totalIn (s : State) : (unspecifiedState s).totalIn = s.totalIn := by
  simp [unspecifiedState, State.totalIn]

/-! ### The derived quantities -/

@[simp] theorem respondOk_totalIn (v : Word) (s : State) : (respondOk v s).totalIn = s.totalIn := rfl
@[simp] theorem respondErr_totalIn (c : FCode) (s : State) : (respondErr c s).totalIn = s.totalIn := rfl
@[simp] theorem raiseFault_totalIn (c : FCode) (v : Word) (s : State) : (raiseFault c v s).totalIn = s.totalIn := rfl
@[simp] theorem record_la (t : Token) (s : State) : (record t s).la = s.la := by cases t <;> rfl
@[simp] theorem record_blkLen (t : Token) (s : State) : (record t s).blkLen = s.blkLen := by cases t <;> rfl
@[simp] theorem record_qn (t : Token) (s : State) : (record t s).qn = s.qn + 1 := by simp [State.qn]
@[simp] theorem beginStep_la (s : State) (fl : BitVec 2) : (s.beginStep fl).la = s.la := rfl
@[simp] theorem clearedBlock_la (s : State) : s.clearedBlock.la = s.la := rfl
@[simp] theorem clearedBlock_blkLen (s : State) : s.clearedBlock.blkLen = 0 := by
  simp [State.blkLen]

end Sys2Proof.Machine
end

