-- ==== Sys2Proof/Laws/Memory.lean ====
section
/-! SUPPORT. Host memory: a write keeps the canonical form, a read after a write gives the byte written, and every other
offset reads as before. -/

namespace Sys2Proof.Machine

namespace Memory

@[simp] theorem read_nil (a : Nat) : Memory.read [] a = Memory.unwritten := rfl

theorem read_cons (c : Host.Cell) (m : Memory) (a : Nat) :
    Memory.read (c :: m) a = if c.1 = a then c.2 else Memory.read m a := rfl

/-- Below every listed offset nothing is written. -/
theorem read_below (m : Memory) (a : Nat) (h : ∀ c ∈ m, a < c.1) : Memory.read m a = Memory.unwritten := by
  induction m with
  | nil => rfl
  | cons c m ih =>
    have hc := h c (by simp)
    rw [read_cons, if_neg (by omega)]
    exact ih fun x hx => h x (by simp [hx])

theorem read_cell_append (a x : Nat) (b : Byte) (m : Memory) (h : ∀ c ∈ m, a < c.1) :
    Memory.read (Memory.cell a b ++ m) x = if a = x then b else Memory.read m x := by
  unfold Memory.cell
  split
  · next hb =>
    by_cases hx : a = x
    · subst hx; simp [read_below m a h, hb]
    · simp [hx]
  · simp [read_cons]

/-- A read after a write: the byte written at its own offset, the old byte at every other. -/
theorem read_write (m : Memory) (a x : Nat) (b : Byte) (h : m.Pairwise fun x y => x.1 < y.1) :
    (Memory.write m a b).read x = if a = x then b else m.read x := by
  induction m with
  | nil =>
    have := read_cell_append a x b [] (by simp)
    simpa [Memory.write] using this
  | cons c m ih =>
    obtain ⟨hc, hm⟩ := List.pairwise_cons.1 h
    unfold Memory.write
    split
    · next hlt =>
      rw [read_cons, ih hm, read_cons]
      split
      · next hx => rw [if_neg (by omega)]
      · rfl
    · next hge =>
      split
      · next heq =>
        rw [read_cell_append a x b m fun y hy => heq ▸ hc y hy, read_cons]
        split
        · rfl
        · next hx => rw [if_neg (by omega)]
      · next hne =>
        refine read_cell_append a x b (c :: m) fun y hy => ?_
        rcases List.mem_cons.1 hy with rfl | hy
        · omega
        · have := hc y hy; omega

theorem mem_cell {a : Nat} {b : Byte} {c : Host.Cell} :
    c ∈ Memory.cell a b → c = (a, b) ∧ b ≠ Memory.unwritten := by
  unfold Memory.cell
  split <;> simp_all

theorem mem_write {m : Memory} {a : Nat} {b : Byte} {c : Host.Cell} :
    c ∈ Memory.write m a b → c ∈ m ∨ (c = (a, b) ∧ b ≠ Memory.unwritten) := by
  induction m with
  | nil => intro h; exact .inr (mem_cell h)
  | cons y m ih =>
    unfold Memory.write
    split
    · intro h
      rcases List.mem_cons.1 h with rfl | h
      · exact .inl (by simp)
      · rcases ih h with h | h
        · exact .inl (by simp [h])
        · exact .inr h
    · split
      all_goals
        intro h
        rcases List.mem_append.1 h with h | h
        · exact .inr (mem_cell h)
        · exact .inl (by simp_all)

theorem pairwise_cell_append {a : Nat} {b : Byte} {m : Memory} (hm : m.Pairwise fun x y => x.1 < y.1)
    (h : ∀ c ∈ m, a < c.1) : (Memory.cell a b ++ m).Pairwise fun x y => x.1 < y.1 := by
  unfold Memory.cell
  split
  · simpa using hm
  · simp only [List.singleton_append, List.pairwise_cons]
    exact ⟨h, hm⟩

/-- A write keeps the canonical form. -/
theorem write_wf {m : Memory} {a : Nat} {b : Byte} (ha : a < 2 ^ 32) (h : m.wf) : (Memory.write m a b).wf := by
  obtain ⟨hs, hu⟩ := h
  refine ⟨?_, fun c hc => ?_⟩
  · clear hu
    induction m with
    | nil => simpa [Memory.write] using pairwise_cell_append (b := b) (a := a) List.Pairwise.nil (by simp)
    | cons y m ih =>
      obtain ⟨hy, hm⟩ := List.pairwise_cons.1 hs
      unfold Memory.write
      split
      · refine List.pairwise_cons.2 ⟨fun c hc => ?_, ih hm⟩
        rcases mem_write hc with hc | ⟨rfl, -⟩
        · exact hy c hc
        · assumption
      · split
        · next heq => exact pairwise_cell_append hm fun c hc => heq ▸ hy c hc
        · refine pairwise_cell_append hs fun c hc => ?_
          rcases List.mem_cons.1 hc with rfl | hc
          · omega
          · have := hy c hc; omega
  · rcases mem_write hc with hc | ⟨rfl, hb⟩
    · exact hu c hc
    · exact ⟨hb, ha⟩

/-- Reset memory is canonical. -/
theorem reset_wf : State.reset.ibuf.wf := by simp [State.reset, Memory.wf]

end Memory

end Sys2Proof.Machine
end

