-- ==== Sys2Proof/Laws/Operations.lean ====
section
/-! SUPPORT. For each shared operation, once, everything it can do: the preamble, the end of a command, sending, the
serializer, FILL, TALLY, CLOSE_BLOCK and the host port. -/

namespace Sys2Proof.Machine

/-! ### Outcomes -/

theorem unlessFaulted_fault {s : State} (k : Host.Outcome State Fault Refusal) (h : s.phase = .fault) :
    unlessFaulted s k = .next (respondErr s.fcode s) := if_pos h

theorem unlessFaulted_run {s : State} (k : Host.Outcome State Fault Refusal) (h : s.phase ≠ .fault) :
    unlessFaulted s k = k := if_neg h

@[simp] theorem finish_ok (s : State) : finish (.ok s) = .next s := rfl
@[simp] theorem finish_trap (c : FCode) (v : Word) (s : State) :
    finish (.error (.trap c v s)) = .next (raiseInternalFault c v s) := rfl
@[simp] theorem finish_stuck (f : Fault) : finish (.error (.stuck f)) = .fault f := rfl
@[simp] theorem finish_refuse (r : Refusal) : finish (.error (.refuse r)) = .refused r := rfl

/-- A next state comes from a run that ended or from an internal fault. -/
theorem finish_next {r : Except Stop State} {t : State} (h : finish r = .next t) :
    r = .ok t ∨ ∃ c v s, r = .error (.trap c v s) ∧ t = raiseInternalFault c v s := by
  rcases r with (⟨c, v, s⟩ | f | f) | s <;> simp_all [finish]

@[simp] theorem liftRefusal_ok {α : Type} (a : α) : liftRefusal (.ok a) = .ok a := rfl
@[simp] theorem liftRefusal_error {α : Type} (r : Refusal) :
    liftRefusal (α := α) (.error r) = .error (.refuse r) := rfl

/-- A micro-operation that runs the serializer ends well exactly when the serializer refuses nothing and the rest of the
operation, given the serializer's new state, ends well. -/
theorem emitThen_ok (emitted : Except Refusal Serializer) (rest : Serializer → Except Stop State) (t : State) :
    (liftRefusal emitted).bind rest = .ok t ↔ ∃ ser, emitted = .ok ser ∧ rest ser = .ok t := by
  rcases emitted with r | ser <;> simp [Except.bind]

/-! ### The serializer -/

/-- PUT_BITS succeeds exactly within its preconditions and the counter's range. -/
theorem putBits_eq_ok {f : BitField} {z z' : Serializer} (h : putBits f z = .ok z') :
    f.fits = true ∧ z.bitpos + f.n < Config.maxBitpos ∧ z' = z.push f := by
  unfold putBits at h
  split at h
  · split at h
    · exact ⟨‹_›, ‹_›, (Except.ok.inj h).symm⟩
    · cases h
  · cases h

@[simp] theorem putFields_nil (z : Serializer) : putFields [] z = .ok z := rfl

theorem putFields_cons (f : BitField) (fs : List BitField) (z : Serializer) :
    putFields (f :: fs) z = (putBits f z).bind (putFields fs) := rfl

theorem putFields_append (fs gs : List BitField) (z : Serializer) :
    putFields (fs ++ gs) z = (putFields fs z).bind (putFields gs) := by
  induction fs generalizing z with
  | nil => rfl
  | cons f fs ih =>
    simp only [List.cons_append, putFields_cons]
    cases putBits f z with
    | error e => rfl
    | ok z => exact ih z

@[simp] theorem push_bitpos (z : Serializer) (f : BitField) : (z.push f).bitpos = z.bitpos + f.n := rfl

/-- PUT_BITS appends to `OUT` and never rewrites it (20_memory.md R63). -/
theorem push_out (z : Serializer) (f : BitField) : ∃ bs, (z.push f).out = z.out ++ bs := ⟨_, rfl⟩

/-! ### Sending -/

/-- Sending fixed elements changes the serializer alone, or nothing at all. -/
theorem sendFrom_next {emit : State → Except Refusal Serializer} {s t : State} (h : sendFrom emit s = .next t) :
    (s.emitting = true ∧ ∃ z, emit s = .ok z ∧ t = { s with ser := z }) ∨ (s.emitting = false ∧ t = s) := by
  unfold sendFrom at h
  split at h
  · next ho =>
    rcases finish_next h with h | ⟨c, v, u, h, -⟩
    · obtain ⟨z, hz, hb⟩ := (emitThen_ok ..).1 h
      exact .inl ⟨ho, z, hz, (Except.ok.inj hb).symm⟩
    · cases he : emit s <;> rw [he] at h <;> simp [Except.bind, liftRefusal] at h
  · next ho =>
    simp only [Host.Outcome.next.injEq] at h
    exact .inr ⟨by simpa using ho, h.symm⟩

/-- Sending an element whose code is sized: as `sendFrom`, or the internal fault of the sizing. -/
theorem sendSized_next {emit : Sizing → State → Except Refusal Serializer} {s t : State}
    (h : sendSized emit s = .next t) :
    (s.emitting = true ∧ ∃ z, s.sizing = .ok z ∧ ∃ w, emit z s = .ok w ∧ t = { s with ser := w }) ∨
    (s.emitting = true ∧ ∃ v, s.sizing = .error v ∧ t = raiseInternalFault .limitDiverge v s) ∨
    (s.emitting = false ∧ t = s) := by
  unfold sendSized at h
  split at h
  · next ho =>
    split at h
    · next v hv => exact .inr (.inl ⟨ho, v, hv, (Host.Outcome.next.inj h).symm⟩)
    · next z hz =>
      rcases sendFrom_next h with ⟨-, w, hw, rfl⟩ | ⟨hc, -⟩
      · exact .inl ⟨ho, z, hz, w, hw, rfl⟩
      · simp [ho] at hc
  · next ho =>
    exact .inr (.inr ⟨by simpa using ho, (Host.Outcome.next.inj h).symm⟩)

/-! ### FILL -/

/-- FILL moves the next bytes of the range into the window and the checksum (40_match_finder.md R121). -/
theorem fill_eq_ok {s t : State} (h : fill s = .ok t) :
    s.totalIn + s.fillCount < Config.maxTotalIn ∧
    t = { s with
      window := s.window ++ s.inputBytes s.fillCount
      cksum := (s.inputBytes s.fillCount).foldl Config.ckFold s.cksum
      inOff := s.inOff + .ofNat 32 s.fillCount
      inLen := s.inLen - .ofNat 32 s.fillCount } := by
  unfold fill at h
  dsimp only at h
  split at h
  · exact ⟨‹_›, (Except.ok.inj h).symm⟩
  · cases h

@[simp] theorem inputBytes_length (s : State) (n : Nat) : (s.inputBytes n).length = n := by simp [State.inputBytes]

/-! ### CLOSE_BLOCK and TALLY -/

/-- After the tables are zeroed the check of RESET_BLOCK finds nothing. -/
theorem clearedBlock_freqNonzero (s : State) : s.clearedBlock.freqNonzero = false := by
  simp [State.freqNonzero]

/-- RESET_BLOCK always ends well (42_block_coordinator.md R176). -/
theorem resetBlock_eq (s : State) : resetBlock s = .ok { s.clearedBlock with phase := .accumulating } := by
  simp [resetBlock, clearedBlock_freqNonzero]

/-- Where CLOSE_BLOCK ends well it wrote one block, emptied the tables and the queue, and moved `BLK_START` to `P`
(42_block_coordinator.md R160). -/
theorem closeBlock_eq_ok {final : Bool} {s t : State} (h : closeBlock final s = .ok t) :
    s.phase = .accumulating ∧ ∃ z w,
      sizeBlock (tallyEob s.lfreq) s.dfreq (fun seq => tallySequence seq s.blfreq) = .ok z ∧
      (let e := s.beginSizing.beginEmitting z
       emitBlock (e.choice z) final z e = .ok w) ∧
      t = { s.clearedBlock with ser := w, phase := .accumulating } := by
  unfold closeBlock at h
  split at h
  · next hp =>
    refine ⟨hp, ?_⟩
    dsimp only at h
    split at h
    · cases h
    · next z hz =>
      obtain ⟨w, hw, hr⟩ := (emitThen_ok ..).1 h
      rw [resetBlock_eq] at hr
      refine ⟨z, w, hz, hw, ?_⟩
      rw [← Except.ok.inj hr]
      rfl
  · cases h

/-- Where TALLY ends well it recorded the token and, with the queue full, closed the block (40_match_finder.md R126). -/
theorem tally_eq_ok {k : Token} {s t : State} (h : tally k s = .ok t) :
    s.qn < s.params.qcap ∧
    ((s.qn + 1 = s.params.qcap ∧ closeBlock false (record k s) = .ok t) ∨
     (s.qn + 1 ≠ s.params.qcap ∧ t = record k s)) := by
  unfold tally at h
  split at h
  · next hq =>
    refine ⟨hq, ?_⟩
    dsimp only at h
    split at h
    · next hf => exact .inl ⟨by simpa using hf, h⟩
    · next hf => exact .inr ⟨by simpa using hf, (Except.ok.inj h).symm⟩
  · cases h

/-! ### The host port -/

/-- One action: what each kind does when it gives a next state. -/
theorem perform_next {a : HostAction} {s t : State} (h : perform a s = .next t) :
    (∃ off bytes v, a = .write off bytes v ∧ alignedWord off bytes = true ∧ busWrite off v s = .next t) ∨
    (∃ off bytes, a = .read off bytes ∧ alignedWord off bytes = true ∧
      t = { s with busData := s.readReg off.toNat }) ∨
    (∃ x b, a = .ibufWrite x b ∧ t = { s with ibuf := s.ibuf.write x.toNat b }) ∨
    (a = .powerOn ∧ t = powerOnReset s) := by
  cases a with
  | write off bytes v =>
    simp only [perform] at h
    split at h
    · exact .inl ⟨off, bytes, v, rfl, ‹_›, h⟩
    · cases h
  | read off bytes =>
    simp only [perform] at h
    split at h
    · exact .inr (.inl ⟨off, bytes, rfl, ‹_›, (Host.Outcome.next.inj h).symm⟩)
    · cases h
  | ibufWrite x b => exact .inr (.inr (.inl ⟨x, b, rfl, (Host.Outcome.next.inj h).symm⟩))
  | powerOn => exact .inr (.inr (.inr ⟨rfl, (Host.Outcome.next.inj h).symm⟩))

/-! ### The step -/

/-- An output element that runs is the instruction its word decodes to. -/
theorem runWord_next {fmt : Format} {w : Word} {s t : State} (h : runWord fmt w s = .next t) :
    fmt ≠ .cmdw ∧ ∃ i, decode fmt w = .ok i ∧ exec i s = .next t := by
  unfold runWord at h
  split at h
  · cases h
  · next hf =>
    split at h
    · next i hi => exact ⟨hf, i, hi, h⟩
    · cases h

/-- A micro-step of an emission sends the next element or resets the block (42_block_coordinator.md R160). -/
theorem emitNext_next {s t : State} (h : emitNext s = .next t) :
    (s.emission = [] ∧ t = { s.clearedBlock with phase := .accumulating }) ∨
    ∃ fmt w rest i, s.emission = (fmt, w) :: rest ∧ fmt ≠ .cmdw ∧ decode fmt w = .ok i ∧
      exec i { s with emission := rest } = .next t := by
  unfold emitNext at h
  split at h
  · next he =>
    rw [resetBlock_eq, finish_ok] at h
    exact .inl ⟨he, (Host.Outcome.next.inj h).symm⟩
  · next e rest he =>
    obtain ⟨hf, i, hi, hx⟩ := runWord_next h
    exact .inr ⟨e.1, e.2, rest, i, he, hf, hi, hx⟩

/-- Outside an emission a step waits or performs the host's next action (70_reset_and_hazards.md R251, 20_memory.md
R68). -/
theorem performNext_next {s t : State} (h : performNext s = .next t) :
    (s.script = [] ∧ t = s) ∨
    ∃ a rest, s.script = a :: rest ∧ perform a { s with script := rest } = .next t := by
  unfold performNext at h
  split at h
  · next hs => exact .inl ⟨hs, (Host.Outcome.next.inj h).symm⟩
  · next a rest hs => exact .inr ⟨a, rest, hs, h⟩

theorem step_of_emitting {s : State} (h : s.phase = .emitting) : step s = emitNext s := by
  simp [step, runNext, State.emitting, h]

theorem step_of_not_emitting {s : State} (h : s.phase ≠ .emitting) : step s = performNext s := by
  simp [step, runNext, State.emitting, h]

/-- What one step can do. -/
theorem step_next {s t : State} (h : step s = .next t) :
    (s.phase = .emitting ∧ emitNext s = .next t) ∨
    (s.phase ≠ .emitting ∧ ((s.script = [] ∧ t = s) ∨
      ∃ a rest, s.script = a :: rest ∧ perform a { s with script := rest } = .next t)) := by
  by_cases hp : s.phase = .emitting
  · exact .inl ⟨hp, by rwa [step_of_emitting hp] at h⟩
  · exact .inr ⟨hp, performNext_next (by rwa [step_of_not_emitting hp] at h)⟩

/-! ### Entering an emission -/

/-- Whatever the core was doing, it is emitting afterwards. -/
@[simp] theorem enterEmission_phase (s : State) : s.enterEmission.phase = .emitting := by
  unfold State.enterEmission
  split
  · next h => simpa [State.emitting] using h
  · split <;> rfl

/-- Entering an emission writes no bit. -/
@[simp] theorem enterEmission_ser (s : State) : s.enterEmission.ser = s.ser := by
  unfold State.enterEmission
  split
  · rfl
  · split <;> rfl

end Sys2Proof.Machine
end

