-- ==== Sys2Proof/Tests/Slice0.lean ====
section
/-! SUPPORT. Tests of the model against the spec's own vectors (95_test_vectors.md), and a witness for the hypotheses of
every obligation that has some. Expected values are the spec's. -/

open Sys2Proof Sys2Proof.Machine Sys2Proof.Claims

namespace Sys2Proof.Tests

-- One theorem at a time: many kernel evaluations pending at once need more threads than the check's limit allows.
set_option Elab.async false

/-! ### What a test looks at -/

/-- The state handed on, if one is. -/
def nextOf : Host.Outcome State Fault Refusal → Option State
  | .next s => some s
  | _ => none

/-- One reading `f` of the state handed on. -/
def after {α : Type} (f : State → α) (o : Host.Outcome State Fault Refusal) : Option α := (nextOf o).map f

theorem next_of_after {α : Type} {f : State → α} {o : Host.Outcome State Fault Refusal} {a : α}
    (h : after f o = some a) : ∃ t, o = .next t ∧ f t = a := by
  cases o with
  | next t => exact ⟨t, rfl, by simpa [after, nextOf] using h⟩
  | fault f => simp [after, nextOf] at h
  | refused r => simp [after, nextOf] at h

/-- A run of micro-operations, or a building of trees, that hands on something. -/
theorem handed_on {ε α : Type} : {r : Except ε α} → r.toOption.isSome = true → ∃ a, r = .ok a
  | .ok a, _ => ⟨a, rfl⟩

/-- Two STEPs, one after the other: both end well where the second, run on what the first leaves, does. -/
theorem both_steps_end {step1 : Except Stop State} {step2 : State → Except Stop State}
    (h : ((step1.toOption.map step2).bind Except.toOption).isSome = true) :
    ∃ s t, step1 = .ok s ∧ step2 s = .ok t := by
  rcases step1 with stop | s
  · simp [Except.toOption] at h
  · obtain ⟨t, ht⟩ := handed_on (r := step2 s) h
    exact ⟨s, t, rfl, ht⟩

/-- The response: `RSTAT` and `RVAL`. -/
def response (s : State) : Word × Word := (s.rstat, s.rval)

/-- `OUT` and `BITPOS`. -/
def output (s : State) : List Byte × Nat := (s.ser.out, s.ser.bitpos)

/-- The bits not yet in `OUT` and what came before them: `ACC`, `NB`, `OUT`. -/
def pending (z : Serializer) : Nat × Nat × List Byte := (z.acc.toNat, z.nb.toNat, z.out)

/-! ### States -/

/-- After `RESET; FEED bytes`: the range is supplied, not yet consumed. -/
def fed (c : Params) (bytes : List Byte) : State :=
  { State.reset with
    params := c, ibuf := (List.range bytes.length).foldl (fun m i => m.write i (bytes.getD i 0)) []
    ibufSize := .ofNat 32 bytes.length, argLen := .ofNat 32 bytes.length, inLen := .ofNat 32 bytes.length }

/-- The bytes consumed, nothing matched yet, under a STEP with FINISH. -/
def consumed (c : Params) (bytes : List Byte) : State :=
  { State.reset with params := c, flags := 2, window := bytes, cksum := bytes.foldl Config.ckFold Config.ckInit }

/-- The run is over. -/
def doneState : State := { State.reset with phase := .done }

/-- `F_BOUNDS` has been taken. -/
def faultState : State :=
  { State.reset with phase := .fault, fcode := .bounds, finfo := 8, rerr := true, rval := 2 }

/-- One literal queued: the byte 0x61 has been matched. -/
def queued : State :=
  { consumed Params.default [0x61] with
    flags := 0, p := 1, q := [{ a := 0x61, d := 0 }]
    lfreq := talliedLit [{ a := 0x61, d := 0 }], dfreq := talliedDist [{ a := 0x61, d := 0 }] }

/-- `queued`, in the emission of its block. -/
def emittingQueued : State := queued.enterEmission

/-- In the emission of an empty block (95_test_vectors.md K1). -/
def emittingEmpty : State := State.reset.enterEmission

/-- The tokens of a whole input, as queue entries `(a, d)` (40_match_finder.md R122 to R126). -/
def tokensOf (c : Params) (bytes : List Byte) : Option (List (Nat × Nat)) :=
  match quiesce (consumed c bytes).stepFuel (consumed c bytes) with
  | .ok s => some (s.q.map fun e => (e.a.toNat, e.d.toNat))
  | .error _ => none

/-! ### Well-formedness: each check refuses an ill-formed term -/

theorem test_wf_reserved_is_no_command : (Instr.reservedCmd 0x00000003).wf = false := by decide
theorem test_wf_len284_extra : (Instr.len284 31).wf = false := by decide
theorem test_wf_static8_low : (Instr.staticLl0To143 0x2F).wf = false := by decide
theorem test_wf_static8_high : (Instr.staticLl0To143 0xC0).wf = false := by decide
theorem test_wf_static9_low : (Instr.staticLl144To255 0x8F).wf = false := by decide
theorem test_wf_static7_high : (Instr.staticLl256To279 24).wf = false := by decide
theorem test_wf_static280_padding : (Instr.staticLl280To287 6).wf = false := by decide
theorem test_wf_static_dist_padding : (Instr.staticDist 30).wf = false := by decide

/-! ### Decoding, word by word from the opcode table -/

/-- Every listed word of the format decodes to the instruction beside it, which encodes to that word. -/
def readsAs (fmt : Format) (rows : List (Word × Instr)) : Bool :=
  rows.all fun r =>
    (match decode fmt r.1 with | .ok i => decide (i = r.2) | .error _ => false) && decide (encode r.2 = (fmt, r.1))

/-- Every listed word of the format is rejected for the reason beside it. -/
def rejectsAs (fmt : Format) (rows : List (Word × DecodeError)) : Bool :=
  rows.all fun r => match decode fmt r.1 with | .ok _ => false | .error e => decide (e = r.2)

/-- The eight command words of 30_encoding.md R83 and the reserved ones of 95_test_vectors.md F14 to F17. -/
theorem test_decode_cmdw : readsAs .cmdw
   [(0x00000000, .reset), (0x00000001, .setInput), (0x00000002, .needsInput), (0x00000003, .step 0b00),
    (0x00000013, .step 0b01), (0x00000023, .step 0b10), (0x00000033, .step 0b11), (0x00000004, .getChecksum),
    (0x00000005, .reservedCmd 0x05), (0x0000000F, .reservedCmd 0x0F), (0x00000043, .reservedCmd 0x43),
    (0x00000011, .reservedCmd 0x11), (0x00000010, .reservedCmd 0x10),
    (0x80000000, .reservedCmd 0x80000000)] = true := by decide +kernel

/-- Every header value of format `BHDR` (30_encoding.md R85). -/
theorem test_decode_bhdr : readsAs .bhdr
    [(0b000, .blockStored), (0b001, .blockStoredFinal), (0b010, .blockStatic), (0b011, .blockStaticFinal),
    (0b100, .blockDynamic), (0b101, .blockDynamicFinal), (0b110, .blockReserved 0),
    (0b111, .blockReserved 1)] = true := by decide +kernel

/-- The length rows of format `LLSYM`, each symbol number as the table writes it and an extra value above it
(30_encoding.md R86). -/
theorem test_decode_len_rows_1 : readsAs .llsym
    [(0b100000001, .len257), (0b100000010, .len258), (0b100000011, .len259), (0b100000100, .len260),
    (0b100000101, .len261), (0b100000110, .len262), (0b100000111, .len263), (0b100001000, .len264),
    (0b1_100001001, .len265 0b1), (0b1_100001010, .len266 0b1), (0b1_100001011, .len267 0b1),
    (0b1_100001100, .len268 0b1), (0b10_100001101, .len269 0b10), (0b10_100001110, .len270 0b10),
    (0b10_100001111, .len271 0b10), (0b10_100010000, .len272 0b10)] = true := by decide +kernel

/-- The next of these rows. -/
theorem test_decode_len_rows_2 : readsAs .llsym
    [(0b110_100010001, .len273 0b110), (0b110_100010010, .len274 0b110), (0b110_100010011, .len275 0b110),
    (0b110_100010100, .len276 0b110), (0b1010_100010101, .len277 0b1010), (0b1010_100010110, .len278 0b1010),
    (0b1010_100010111, .len279 0b1010), (0b1010_100011000, .len280 0b1010), (0b10010_100011001, .len281 0b10010),
    (0b10010_100011010, .len282 0b10010), (0b10010_100011011, .len283 0b10010), (0b10010_100011100, .len284 0b10010),
    (0b100011101, .len285)] = true := by decide +kernel

/-- The literals, the end of block and the reserved symbols of format `LLSYM` (30_encoding.md R90, R91). -/
theorem test_decode_other_llsym : readsAs .llsym
    [(0b000000000, .lit 0x00), (0b001000001, .lit 0x41), (0b011111111, .lit 0xFF), (0b100000000, .eob),
    (0b100011110, .llReserved 0), (0b100011111, .llReserved 1)] = true := by decide +kernel

/-- The distance rows of format `DSYM` (30_encoding.md R87, R91). -/
theorem test_decode_dist_rows_1 : readsAs .dsym
    [(0b00000, .dist0), (0b00001, .dist1), (0b00010, .dist2), (0b00011, .dist3), (0b1_00100, .dist4 0b1),
    (0b1_00101, .dist5 0b1), (0b10_00110, .dist6 0b10), (0b10_00111, .dist7 0b10), (0b110_01000, .dist8 0b110),
    (0b110_01001, .dist9 0b110), (0b1010_01010, .dist10 0b1010), (0b1010_01011, .dist11 0b1010),
    (0b10010_01100, .dist12 0b10010), (0b10010_01101, .dist13 0b10010), (0b100010_01110, .dist14 0b100010),
    (0b100010_01111, .dist15 0b100010)] = true := by decide +kernel

/-- The next of these rows. -/
theorem test_decode_dist_rows_2 : readsAs .dsym
    [(0b1000010_10000, .dist16 0b1000010), (0b1000010_10001, .dist17 0b1000010),
    (0b10000010_10010, .dist18 0b10000010), (0b10000010_10011, .dist19 0b10000010),
    (0b100000010_10100, .dist20 0b100000010), (0b100000010_10101, .dist21 0b100000010),
    (0b1000000010_10110, .dist22 0b1000000010), (0b1000000010_10111, .dist23 0b1000000010),
    (0b10000000010_11000, .dist24 0b10000000010), (0b10000000010_11001, .dist25 0b10000000010),
    (0b100000000010_11010, .dist26 0b100000000010), (0b100000000010_11011, .dist27 0b100000000010),
    (0b1000000000010_11100, .dist28 0b1000000000010), (0b1000000000010_11101, .dist29 0b1000000000010),
    (0b11110, .distReserved 0), (0b11111, .distReserved 1)] = true := by decide +kernel

/-- The code-length rows of format `CLSYM` (30_encoding.md R88). -/
theorem test_decode_cl_rows_1 : readsAs .clsym
    [(0b00000, .cl0), (0b00001, .cl1), (0b00010, .cl2), (0b00011, .cl3), (0b00100, .cl4), (0b00101, .cl5),
    (0b00110, .cl6), (0b00111, .cl7), (0b01000, .cl8), (0b01001, .cl9), (0b01010, .cl10), (0b01011, .cl11),
    (0b01100, .cl12), (0b01101, .cl13), (0b01110, .cl14), (0b01111, .cl15)] = true := by decide +kernel

/-- The next of these rows. -/
theorem test_decode_cl_rows_2 : readsAs .clsym
    [(0b10_10000, .cl16 0b10), (0b110_10001, .cl17 0b110),
    (0b1000010_10010, .cl18 0b1000010)] = true := by decide +kernel

/-- Static codes of 95_test_vectors.md T1. -/
theorem test_decode_static8 : readsAs (.static 8)
   [(0b00110000, .staticLl0To143 0b00110000), (0b01110001, .staticLl0To143 0b01110001),
    (0b10111111, .staticLl0To143 0b10111111), (0b11000000, .staticLl280To287 0b000),
    (0b11000101, .staticLl280To287 0b101)] = true := by decide +kernel

/-- Static codes of 95_test_vectors.md T1. -/
theorem test_decode_static9 : readsAs (.static 9)
   [(0b110010000, .staticLl144To255 0b10010000), (0b111111111, .staticLl144To255 0b11111111)] = true := by
  decide +kernel

/-- Static codes of 95_test_vectors.md T1. -/
theorem test_decode_static7 : readsAs (.static 7)
   [(0b0000000, .staticLl256To279 0), (0b0000001, .staticLl256To279 1), (0b0010111, .staticLl256To279 23)] = true := by
  decide +kernel

/-- Static codes of 95_test_vectors.md T1. -/
theorem test_decode_static_dist : readsAs (.static 5)
   [(0b00000, .staticDist 0), (0b00111, .staticDist 7), (0b11101, .staticDist 29)] = true := by decide +kernel

/-- A bit above the symbol is rejected (30_encoding.md R85 to R88). -/
theorem test_reject_bhdr : rejectsAs .bhdr [(0b1000, .unusedBits)] = true := by decide +kernel

/-- No symbol 288; no extra bit above symbol 257; symbol 284 has no remainder 31 (30_encoding.md R86, R91). -/
theorem test_reject_llsym : rejectsAs .llsym
    [(0b100100000, .noSuchSymbol), (0b1_100000001, .unusedBits), (0b11111_100011100, .neverSent)] = true := by
  decide +kernel

/-- No extra bit above distance symbol 0; one only above symbol 4 (30_encoding.md R87). -/
theorem test_reject_dsym : rejectsAs .dsym [(0b1_00000, .unusedBits), (0b10_00100, .unusedBits)] = true := by
  decide +kernel

/-- There are 19 code-length symbols (30_encoding.md R88). -/
theorem test_reject_clsym : rejectsAs .clsym [(0b10011, .noSuchSymbol), (0b1_00000, .unusedBits)] = true := by
  decide +kernel

/-- Static symbols 286 and 287 and distance codes 30 and 31 are never sent; other 8-bit values are no code
(30_encoding.md R91, R93, R94). -/
theorem test_reject_static :
    rejectsAs (.static 8) [(0xC6, .neverSent), (0xC7, .neverSent), (0xC8, .noSuchCode), (0x2F, .noSuchCode)] = true ∧
    rejectsAs (.static 5) [(30, .neverSent), (31, .neverSent)] = true ∧
    rejectsAs (.static 7) [(24, .noSuchCode)] = true ∧ rejectsAs (.static 9) [(0x18F, .noSuchCode)] = true := by
  decide +kernel

/-- 95_test_vectors.md T1: the `PUT_BITS` values of static codes. -/
theorem test_static_code_values :
    [0, 65, 97, 143, 144, 255, 256, 257, 279, 280, 283, 284, 285, 287].map (fun s => (staticLit s).v) =
      [12, 142, 137, 253, 19, 511, 0, 64, 116, 3, 195, 35, 163, 227] ∧
    [0, 2, 7, 29].map (fun c => (staticDist c).v) = [0, 8, 28, 23] := by decide

/-- 95_test_vectors.md T2: symbols and extra values of lengths. -/
theorem test_length_symbols :
    [3, 10, 11, 12, 13, 18, 34, 35, 130, 131, 199, 226, 227, 257, 258].map
      (fun l => (257 + lenCode l, l - entry lBase (lenCode l))) =
      [(257, 0), (264, 0), (265, 0), (265, 1), (266, 0), (268, 1), (272, 3), (273, 0), (280, 15)] ++
      [(281, 0), (283, 4), (283, 31), (284, 0), (284, 30), (285, 0)] := by decide +kernel

/-- 95_test_vectors.md T2: symbols and extra values of distances. -/
theorem test_distance_symbols :
    [1, 4, 5, 6, 8, 9, 12, 13, 24, 25, 256, 257, 1025, 4096, 16385, 24577, 32768].map
      (fun d => (distCode d, d - entry dBase (distCode d))) =
      [(0, 0), (3, 0), (4, 0), (4, 1), (5, 1), (6, 0), (6, 3), (7, 0), (8, 7), (9, 0), (15, 63), (16, 0)] ++
      [(20, 0), (23, 1023), (28, 0), (29, 0), (29, 8191)] := by decide +kernel

/-! ### The serializer (95_test_vectors.md B1 to B11) -/

/-- The serializer holding `nb` bits `acc`. -/
def holding (acc : BitVec 7) (nb : BitVec 3) : Serializer := { acc := acc, nb := nb, bitpos := nb.toNat, out := [] }

/-- What a serializer operation leaves. -/
def left (x : Except Refusal Serializer) : Option (Nat × Nat × List Byte) :=
  match x with
  | .ok z => some (pending z)
  | .error _ => none

/-- B1, B3, B4, B10. -/
theorem test_put_bits_from_empty :
    left (putBits { v := 3, n := 3 } (holding 0 0)) = some (3, 3, []) ∧
    left (putBits { v := 0x1FF, n := 9 } (holding 0 0)) = some (1, 1, [0xFF]) ∧
    left (putBits { v := 0xABCD, n := 16 } (holding 0 0)) = some (0, 0, [0xCD, 0xAB]) ∧
    left (putBits { v := 0, n := 0 } (holding 0 0)) = some (0, 0, []) := by decide +kernel

/-- B2, B5, B6, B11. -/
theorem test_put_bits_onto_pending :
    left (putBits { v := 0, n := 7 } (holding 3 3)) = some (0, 2, [0x03]) ∧
    left (putBits { v := 0xFFFF, n := 16 } (holding 5 3)) = some (7, 3, [0xFD, 0xFF]) ∧
    left (putBits { v := 1, n := 1 } (holding 0x7F 7)) = some (0, 0, [0xFF]) ∧
    left (putBits { v := 3, n := 3 } (holding 1 1)) = some (7, 4, []) := by decide +kernel

/-- B7 to B9. -/
theorem test_align_and_put_bytes :
    left (align (holding 7 3)) = some (0, 0, [0x07]) ∧ left (align (holding 0 0)) = some (0, 0, []) ∧
    left (putBytes [0xDE, 0xAD] (holding 0 0)) = some (0, 0, [0xDE, 0xAD]) := by decide +kernel

/-! ### The Match Finder (95_test_vectors.md section 2) -/

/-- M1: `abcabcabd`. -/
theorem test_tokens_m1 : tokensOf Params.default [0x61, 0x62, 0x63, 0x61, 0x62, 0x63, 0x61, 0x62, 0x64] =
    some [(0x61, 0), (0x62, 0), (0x63, 0), (5, 3), (0x64, 0)] := by decide +kernel

/-- M2: `abcXabcYabc`, the nearest of two equal lengths. -/
theorem test_tokens_m2 :
    tokensOf Params.default [0x61, 0x62, 0x63, 0x58, 0x61, 0x62, 0x63, 0x59, 0x61, 0x62, 0x63] =
    some [(0x61, 0), (0x62, 0), (0x63, 0), (0x58, 0), (3, 4), (0x59, 0), (3, 4)] := by decide +kernel

/-- M3: `abcdXabcYabcd`, the longest beats the nearest. -/
theorem test_tokens_m3 :
    tokensOf Params.default [0x61, 0x62, 0x63, 0x64, 0x58, 0x61, 0x62, 0x63, 0x59, 0x61, 0x62, 0x63, 0x64] =
    some [(0x61, 0), (0x62, 0), (0x63, 0), (0x64, 0), (0x58, 0), (3, 5), (0x59, 0), (4, 9)] := by decide +kernel

/-- M4 and M5: the window's edge, `WSIZE` 4 and 5. -/
theorem test_tokens_window_edge :
    (tokensOf { Params.default with wsize := 4 } [0x61, 0x62, 0x63, 0x58, 0x59, 0x61, 0x62, 0x63]).map List.length =
      some 8 ∧
    tokensOf { Params.default with wsize := 5 } [0x61, 0x62, 0x63, 0x58, 0x59, 0x61, 0x62, 0x63] =
      some [(0x61, 0), (0x62, 0), (0x63, 0), (0x58, 0), (0x59, 0), (3, 5)] := by decide +kernel

/-- M7, M8, M9: matches over themselves. -/
theorem test_tokens_self_overlap :
    tokensOf Params.default [0x61, 0x61, 0x61, 0x61] = some [(0x61, 0), (3, 1)] ∧
    tokensOf Params.default [0x61, 0x61, 0x61] = some [(0x61, 0), (0x61, 0), (0x61, 0)] ∧
    tokensOf Params.default [0x61, 0x62, 0x61, 0x62, 0x61, 0x62, 0x61, 0x62] =
      some [(0x61, 0), (0x62, 0), (6, 2)] := by decide +kernel

/-- M12: 260 bytes of 0x41, the match cut at `MAX_MATCH`. -/
theorem test_tokens_max_match : tokensOf Params.default (List.replicate 260 0x41) =
    some [(0x41, 0), (257, 1), (0x41, 0), (0x41, 0)] := by decide +kernel

/-! ### The Huffman builder (95_test_vectors.md section 3) -/

/-- Lengths, codes, count and encoded length. -/
def built (freq : List Nat) (minCodes cap : Nat) : Option (List Nat × List Nat × Nat × Nat) :=
  match buildCode freq minCodes cap with
  | .ok b => some (b.table.len, b.table.code, b.num, b.enclen)
  | .error _ => none

/-- H1, H2, H3. -/
theorem test_build_code_plain :
    built [5, 1, 1, 2, 3] 1 15 = some ([1, 4, 4, 3, 2], [0, 7, 15, 3, 1], 5, 25) ∧
    built [0, 0, 7, 0] 1 15 = some ([0, 0, 1, 0], [0, 0, 0, 0], 3, 7) ∧
    built [0, 0, 0, 0] 1 15 = some ([0, 0, 0, 0], [0, 0, 0, 0], 1, 0) := by decide +kernel

/-- H5 and H7: ties. -/
theorem test_build_code_ties :
    built [1, 1, 1] 1 15 = some ([2, 2, 1], [1, 3, 0], 3, 5) ∧
    built [3, 3, 3, 3, 3, 3] 1 15 = some ([3, 3, 3, 3, 2, 2], [1, 5, 3, 7, 0, 2], 6, 48) := by decide +kernel

/-- H8 and H11: limiting with an overshoot to repair. -/
theorem test_build_code_limited :
    built [1, 1, 2, 3, 5, 8, 13] 1 4 = some ([4, 4, 4, 4, 3, 3, 1], [3, 11, 7, 15, 1, 5, 0], 7, 80) ∧
    built [13, 13, 89, 2, 8, 34, 89, 8] 1 5 =
      some ([4, 5, 2, 5, 5, 4, 1, 5], [3, 7, 1, 23, 15, 11, 0, 31], 8, 610) := by decide +kernel

/-- H14: more symbols than the cap can code. -/
theorem test_build_code_diverges :
    buildCode [10, 10, 1, 1, 1, 1, 1, 1, 1] 1 3 = .error 0 := by decide +kernel

/-! ### The Block Coordinator (95_test_vectors.md section 4) -/

/-- The symbols of a run-length coded sequence, as (symbol, extra value, extra bits). -/
def coded (seq : List Nat) : List (Nat × Nat × Nat) := (rle seq).map fun c => (c.sym, c.ev, c.eb)

/-- E3, E4, E7: runs of zeros. -/
theorem test_rle_zeros :
    coded (List.replicate 141 0) = [(18, 127, 7), (17, 0, 3)] ∧
    coded (List.replicate 149 0) = [(18, 127, 7), (18, 0, 7)] ∧
    coded [0, 0] = [(0, 0, 0), (0, 0, 0)] := by decide +kernel

/-- E8, E11, E13, E14. -/
theorem test_rle_repeats :
    coded [4, 4, 4] = [(4, 0, 0), (4, 0, 0), (4, 0, 0)] ∧
    coded (List.replicate 8 5) = [(5, 0, 0), (16, 3, 2), (5, 0, 0)] ∧
    coded (List.replicate 11 7) = [(7, 0, 0), (16, 3, 2), (16, 1, 2)] ∧
    coded [0, 0, 3, 3, 3, 3, 0, 0, 0] = [(0, 0, 0), (0, 0, 0), (3, 0, 0), (16, 0, 2), (17, 0, 3)] := by decide +kernel

/-- The three costs of the block over a whole input. -/
def costs (bytes : List Byte) : Option (Option Nat × Nat × Nat) :=
  match quiesce (consumed Params.default bytes).stepFuel (consumed Params.default bytes) with
  | .ok s =>
    match s.sizing with
    | .ok z =>
      let c := costsOf (counts s.sizedLfreq) (counts s.dfreq) z s.blkLen
      some (c.stored, c.fixed, c.dynamic)
    | .error _ => none
  | .error _ => none

/-- K1, K2, K3. -/
theorem test_costs :
    costs [] = some (some 40, 10, 92) ∧ costs (List.replicate 200 0x41) = some (some 1640, 36, 122) ∧
    costs [0x61, 0x62, 0x63, 0x64] = some (some 72, 42, 116) := by decide +kernel

/-- K8 to K11: ties. -/
theorem test_select_ties :
    select { stored := some 10, fixed := 10, dynamic := 20 } = .fixed ∧
    select { stored := some 20, fixed := 10, dynamic := 10 } = .fixed ∧
    select { stored := some 10, fixed := 20, dynamic := 10 } = .dynamic ∧
    select { stored := none, fixed := 10, dynamic := 10 } = .fixed := by decide

/-! ### Commands (95_test_vectors.md section 6) -/

/-- F1 and F5. -/
theorem test_needs_input :
    after response (exec .needsInput State.reset) = some (0x000, 1) ∧
    after response (exec .needsInput (fed Params.default [1, 2])) = some (0x000, 0) := by decide +kernel

/-- F6: `F_INPUT_PENDING`, and `RSTAT` after it. -/
theorem test_set_input_pending :
    after (fun s => (s.rstat, s.rval, s.finfo, s.inLen)) (exec .setInput
      { State.reset with ibufSize := 8, inLen := 8 }) = some (0x411, 1, 8, 8) := by decide +kernel

/-- F10 and F11: the edge of the buffer; the sum is not wrapped. -/
theorem test_set_input_bounds :
    after (fun s => (s.rval, s.inOff, s.inLen)) (exec .setInput
      { State.reset with ibufSize := 8, argOff := 4, argLen := 4 }) = some (0, 4, 4) ∧
    after (fun s => (s.rstat, s.rval, s.finfo)) (exec .setInput
      { State.reset with ibufSize := 0xFFFFFFFF, argOff := 0xFFFFFFFF, argLen := 2 }) =
      some (0x421, 2, 0xFFFFFFFF) := by decide +kernel

/-- F8: RESET leaves `FAULT` and keeps `IBUF_SIZE`. -/
theorem test_reset_leaves_fault :
    after (fun s => (s.rstat, s.rval, s.finfo, s.ibufSize)) (exec .reset { faultState with ibufSize := 8 }) =
      some (0, 0, 0, 8) := by decide +kernel

/-- F14 and F17: reserved words. -/
theorem test_reserved_words :
    after (fun s => (s.rstat, s.rval, s.finfo)) (busWrite 0 0x00000005 State.reset) = some (0x451, 5, 5) ∧
    after (fun s => (s.rstat, s.rval, s.finfo)) (busWrite 0 0x00000010 State.reset) = some (0x451, 5, 0x10) := by
  decide +kernel

/-- F7: a faulted core answers with the first fault. -/
theorem test_faulted_answers :
    after response (busWrite 0 0x00000003 faultState) = some (0x421, 2) ∧
    after response (busWrite 0 0x0000000F faultState) = some (0x421, 2) := by decide +kernel

/-- F2: right after reset the checksum is `CK_INIT`, whatever that is. -/
theorem test_get_checksum : exec .getChecksum State.reset = .next { State.reset with rval := Config.ckInit } := rfl

/-- F18: a STEP in `DONE`. -/
theorem test_step_in_done :
    after (fun s => (s.rstat, s.rval, s.flags, s.progress)) (exec (.step 2) { doneState with progress := true }) =
      some (0x300, 0, 2, false) := by decide +kernel

/-! ### Programs (95_test_vectors.md section 7), one STEP each -/

/-- P1: the empty input. -/
theorem test_p1_empty :
    after output (exec (.step 2) State.reset) = some ([0x03, 0x00], 16) ∧
    after response (exec (.step 2) State.reset) = some (0x300, 1) := by decide +kernel

/-- P2: 200 bytes of 0x41. -/
theorem test_p2_static_match :
    after output (exec (.step 2) (consumed Params.default (List.replicate 200 0x41))) =
      some ([0x73, 0x1C, 0x26, 0x00, 0x00], 40) := by decide +kernel

/-- P4's block, shortened to its first bytes' format: `NB = 0`, final, the bytes `00 01 02` (example of R170). -/
theorem test_emit_stored :
    after output (exec .blockStoredFinal { consumed Params.default [0, 1, 2] with p := 3, phase := .emitting }) =
      some ([0x01, 0x03, 0x00, 0xFC, 0xFF, 0x00, 0x01, 0x02], 64) := by decide +kernel

/-- P5: a dynamic block. -/
theorem test_p5_dynamic :
    after output (exec (.step 2) (consumed Params.default (
      [0x61, 0x61, 0x61, 0x62, 0x61, 0x61, 0x63, 0x61, 0x62, 0x62, 0x61, 0x62, 0x63, 0x61, 0x63] ++
      [0x62, 0x61, 0x63, 0x63, 0x62, 0x62, 0x62, 0x63, 0x62, 0x63, 0x63, 0x63, 0x61, 0x61]))) =
      some ([0x05, 0xC0, 0x01, 0x0D, 0x00, 0x00, 0x00, 0x82, 0xB0, 0xAC, 0x97, 0xFE] ++
        [0x1D, 0x1C, 0x46, 0x36, 0x4B, 0x53, 0xDB, 0x5A, 0xC5, 0x01], 176) := by decide +kernel

/-- P6: `QCAP = 2`, `abcabcabcabc`, three blocks. -/
theorem test_p6_blocks :
    after output (exec (.step 2) (fed { Params.default with qcap := 2 }
      [0x61, 0x62, 0x63, 0x61, 0x62, 0x63, 0x61, 0x62, 0x63, 0x61, 0x62, 0x63])) =
      some ([0x4A, 0x4C, 0x02, 0x28, 0x19, 0x8E, 0x00, 0x03, 0x00], 72) := by decide +kernel

/-- P7, its first STEP: FLUSH leaves six bits pending. -/
theorem test_p7_flush :
    after (fun s => (output s, pending s.ser, s.rstat, s.p, s.blkStart))
      (exec (.step 1) (fed Params.default [0x61, 0x62, 0x63, 0x61, 0x62, 0x63])) =
      some (([0x4A, 0x4C, 0x4A, 0x06, 0x22], 46), (0, 6, [0x4A, 0x4C, 0x4A, 0x06, 0x22]), 0x000, 6, 6) := by
  decide +kernel

/-- P8, its first STEP: without a flag 7 bytes are consumed and not matched. -/
theorem test_p8_no_flag :
    after (fun s => (s.totalIn, s.p, s.qn, s.ser.bitpos))
      (exec (.step 0) (fed Params.default [0x68, 0x65, 0x6C, 0x6C, 0x6F, 0x20, 0x77])) = some (7, 0, 0, 0) ∧
    after (fun s => (s.inOff, s.inLen, s.rval))
      (exec (.step 0) (fed Params.default [0x68, 0x65, 0x6C, 0x6C, 0x6F, 0x20, 0x77])) = some (7, 0, 1) := by
  decide +kernel

/-! ### Output rows, each on one state -/

/-- The static codes in use: the empty block is static (K1). -/
theorem test_symbol_rows_static :
    after (fun s => pending s.ser) (exec (.lit 0x41) emittingEmpty) = some (0, 0, [142]) ∧
    after (fun s => pending s.ser) (exec (.len283 4) emittingEmpty) = some (4, 5, [195]) ∧
    after (fun s => pending s.ser) (exec (.dist7 0) emittingEmpty) = some (28, 7, []) ∧
    after (fun s => pending s.ser) (exec .eob emittingEmpty) = some (0, 7, []) := by decide +kernel

/-- The code-length code of the empty block (K1: lengths 2, 2, 1 of symbols 0, 1, 18). -/
theorem test_code_length_rows :
    after (fun s => pending s.ser) (exec .cl0 emittingEmpty) = some (1, 2, []) ∧
    after (fun s => pending s.ser) (exec .cl1 emittingEmpty) = some (3, 2, []) ∧
    after (fun s => pending s.ser) (exec (.cl18 127) emittingEmpty) = some (0, 0, [254]) := by decide +kernel

/-- Static codes go out most significant bit first. -/
theorem test_static_rows :
    after (fun s => pending s.ser) (exec (.staticLl0To143 0x71) emittingEmpty) = some (0, 0, [142]) ∧
    after (fun s => pending s.ser) (exec (.staticLl144To255 0x90) emittingEmpty) = some (0, 1, [19]) ∧
    after (fun s => pending s.ser) (exec (.staticLl256To279 1) emittingEmpty) = some (64, 7, []) ∧
    after (fun s => pending s.ser) (exec (.staticLl280To287 3) emittingEmpty) = some (0, 0, [195]) ∧
    after (fun s => pending s.ser) (exec (.staticDist 7) emittingEmpty) = some (28, 5, []) := by decide +kernel

/-- The tables of the empty block in `EMITTING` (K1): the end-of-block marker counted, `BLFREQ` for symbols 0, 1 and
18. -/
theorem test_enter_emission :
    emittingEmpty.lfreq.getD 256 0 = 1 ∧ emittingEmpty.blfreq.getD 18 0 = 2 ∧ emittingEmpty.blfreq.getD 1 0 = 1 ∧
    emittingEmpty.blfreq.getD 0 0 = 1 ∧ emittingEmpty.ser = State.reset.ser := by decide +kernel

/-- Outside an emission an output row sends nothing (R194). -/
theorem test_rows_outside_emission : exec (.staticDist 7) State.reset = .next State.reset := rfl

/-- After the last element the block is reset (line 13 of R160). -/
theorem test_emission_ends :
    after (fun s => (s.phase, s.q, s.blkStart, s.lfreq.getD 256 0)) (step emittingQueued) =
      some (.accumulating, [], 1, 0) := by decide +kernel

/-- A placed output word runs as the first instruction after reset: a static final block. -/
theorem test_placed_row_runs :
    after (fun s => pending s.ser) (step (State.reset.withFetchWord 8 3)) = some (0, 2, [0x03]) := by decide +kernel

/-- `RSTAT` of a faulted core, read through the register window (F9). -/
theorem test_read_rstat :
    after State.busData (perform (.read 0x04 4) faultState) = some 0x421 ∧
    after State.busData (perform (.read 0x18 4) faultState) = some 8 := by decide +kernel

/-- A placed command word runs as the first instruction after reset. -/
theorem test_placed_word_runs :
    after output (step (State.reset.withFetchWord 32 0x23)) = some ([0x03, 0x00], 16) := by decide +kernel

/-- The script of P1, written out as host actions, is six register writes. -/
theorem test_compress_script : compressScript [] =
    [.write 0x00 4 0, .write 0x0C 4 0, .write 0x10 4 0, .write 0x14 4 0, .write 0x00 4 1,
      .write 0x00 4 0x23] := by decide

/-! ### Witnesses: concrete states and operands that meet an obligation's hypotheses -/

theorem inv_reset : State.reset.Inv :=
  ⟨by decide, by decide, by decide +kernel, by decide +kernel, fun _ => rfl, by decide +kernel, by decide +kernel⟩

theorem inv_fed : (fed Params.default [0x61, 0x61, 0x61, 0x61]).Inv :=
  ⟨by decide, by decide, by decide +kernel, by decide +kernel, fun _ => rfl, by decide +kernel, by decide +kernel⟩

theorem inv_queued : queued.Inv :=
  ⟨by decide, by decide, by decide +kernel, by decide +kernel, fun _ => rfl, by decide +kernel, by decide +kernel⟩

theorem inv_done : doneState.Inv :=
  ⟨by decide, by decide, by decide +kernel, by decide +kernel, fun _ => rfl, by decide +kernel, by decide +kernel⟩

/-- SetInputChecksThenLoads, all four clauses, the last two at the boundary. -/
theorem witness_SetInputChecksThenLoads :
    (doneState.phase ≠ .fault ∧ doneState.phase = .done) ∧
    (let s := fed Params.default [1]; s.phase ≠ .fault ∧ s.phase ≠ .done ∧ s.inLen ≠ 0) ∧
    (let s := { State.reset with ibufSize := 8, argOff := 4, argLen := 5 }
     s.phase ≠ .fault ∧ s.phase ≠ .done ∧ s.inLen = 0 ∧ s.ibufSize.toNat < s.argOff.toNat + s.argLen.toNat) ∧
    (let s := { State.reset with ibufSize := 8, argOff := 4, argLen := 4 }
     s.phase ≠ .fault ∧ s.phase ≠ .done ∧ s.inLen = 0 ∧ s.argOff.toNat + s.argLen.toNat ≤ s.ibufSize.toNat) := by
  decide +kernel

/-- NeedsInputAnswersPredicate, both clauses. -/
theorem witness_NeedsInputAnswersPredicate :
    (State.reset.phase ≠ .fault ∧ State.reset.inLen = 0) ∧
    (let s := fed Params.default [1]; s.phase ≠ .fault ∧ s.inLen ≠ 0) := by decide +kernel

/-- ChecksumAnswersFold, with four bytes consumed. -/
theorem witness_ChecksumAnswersFold :
    let s := consumed Params.default [0x61, 0x62, 0x63, 0x64]
    s.phase ≠ .fault ∧ s.checksumInv ∧ s.window ≠ [] :=
  ⟨by decide, fun _ => rfl, by decide⟩

/-- ReservedWordRaisesBadCmd: each way to be reserved, in and out of `FAULT`. -/
theorem witness_ReservedWordRaisesBadCmd :
    (5 ≤ (0x05 : Word).toNat % 16) ∧ ((0x43 : Word).toNat / 64 ≠ 0) ∧
    ((0x10 : Word).toNat / 16 % 4 ≠ 0 ∧ (0x10 : Word).toNat % 16 ≠ 3) ∧
    State.reset.phase ≠ .fault ∧ faultState.phase = .fault := by decide

/-- FaultedCoreAnswersErr. -/
theorem witness_FaultedCoreAnswersErr : faultState.phase = .fault ∧ (0x03 : Word) ≠ 0 := by decide

/-- StepInDoneSetsFlagsOnly. -/
theorem witness_StepInDoneSetsFlagsOnly : doneState.phase = .done := by decide

/-- StepWithNothingToDoAnswersZero: without a flag, and with FLUSH. -/
theorem witness_StepWithNothingToDoAnswersZero :
    let s := State.reset
    s.phase = .accumulating ∧ s.inLen = 0 ∧ (0 : BitVec 2).getLsbD 1 = false ∧ (1 : BitVec 2).getLsbD 1 = false ∧
    s.la < s.params.maxMatch ∧ s.la = 0 ∧ s.q = [] := by decide +kernel

/-- StepWithoutFlagOnlyConsumesShortRange, at the boundary: 256 bytes, one fewer than `MAX_MATCH`. -/
theorem witness_StepWithoutFlagOnlyConsumesShortRange :
    let s := { State.reset with inLen := 256, ibufSize := 256 }
    s.phase = .accumulating ∧ s.inLen ≠ 0 ∧ s.la + s.inLen.toNat < s.params.maxMatch ∧
    s.la + s.inLen.toNat + 1 = s.params.maxMatch ∧ s.p ≤ s.totalIn ∧ s.params.maxMatch ≤ s.params.laCap ∧
    s.totalIn + s.inLen.toNat < 2 ^ 61 := by decide +kernel

/-- FinishOfEmptyBlockWritesTenBits. -/
theorem witness_FinishOfEmptyBlockWritesTenBits :
    let s := State.reset
    s.Inv ∧ s.phase = .accumulating ∧ s.inLen = 0 ∧ s.la = 0 ∧ s.q = [] ∧ (2 : BitVec 2).getLsbD 1 = true ∧
    s.ser.bitpos + 17 < 2 ^ 64 :=
  ⟨inv_reset, by decide +kernel⟩

/-- The hypotheses of the statements about a STEP that responds `OK`, met by `aaaa` without a flag, with FLUSH and with
FINISH (StepRunsToQuiescence, StepProgressMeansWork, FlagsCloseTheStream, StepFrame). -/
theorem witness_step_that_responds_ok :
    let s := fed Params.default [0x61, 0x61, 0x61, 0x61]
    s.Inv ∧ s.phase = .accumulating ∧
    (∃ t, exec (.step 0) s = .next t ∧ t.rerr = false) ∧ (∃ t, exec (.step 1) s = .next t ∧ t.rerr = false) ∧
    (∃ t, exec (.step 2) s = .next t ∧ t.rerr = false) :=
  ⟨inv_fed, rfl, next_of_after (f := State.rerr) (by decide +kernel),
    next_of_after (f := State.rerr) (by decide +kernel),
    next_of_after (f := State.rerr) (by decide +kernel)⟩

/-- StepFrame's last clause: a STEP that matched and wrote nothing. -/
theorem witness_StepFrame :
    ∃ t, exec (.step 0) queued = .next t ∧ (t.rerr, t.p, t.ser.bitpos) = (false, queued.p, queued.ser.bitpos) :=
  next_of_after (f := fun t => (t.rerr, t.p, t.ser.bitpos)) (by decide +kernel)

/-- StepKeepsEveryPrecondition. -/
theorem witness_StepKeepsEveryPrecondition :
    let s := fed Params.default [0x61, 0x61, 0x61, 0x61]
    s.Inv ∧ s.totalIn + s.inLen.toNat < 2 ^ 61 ∧ s.ser.bitpos < 2 ^ 63 :=
  ⟨inv_fed, by decide +kernel⟩

/-- A core whose code-length table has 129 used symbols, one more than 7 bits can code: no run reaches it, and its
FINISH
takes `F_LIMIT_DIVERGE`. -/
def divergent : State := { State.reset with blfreq := List.replicate 129 1 }

/-- The run stopped with `F_LIMIT_DIVERGE`, information 0, and the fault's state answers so. -/
def diverges (r : Except Stop State) : Bool :=
  match r with
  | .error (.trap c v u) =>
    decide (c = .limitDiverge) && decide (v = 0) &&
    decide (let t := raiseInternalFault c v u; (t.rstat, t.rval, t.finfo) = (0x441, 4, 0))
  | _ => false

theorem trap_of_diverges {r : Except Stop State} (h : diverges r = true) :
    ∃ u, r = .error (.trap .limitDiverge 0 u) := by
  match r, h with
  | .error (.trap c v u), h =>
    have h := Bool.and_eq_true_iff.mp (Bool.and_eq_true_iff.mp h).1
    exact ⟨u, by rw [of_decide_eq_true h.1, of_decide_eq_true h.2]⟩

theorem test_limit_diverge : diverges (runStep 2 { divergent with flags := 2, progress := false }) = true := by
  decide +kernel

/-- InternalFaultKeepsOutput. -/
theorem witness_InternalFaultKeepsOutput :
    divergent.phase ≠ .fault ∧
    ∃ u, runStep 2 { divergent with flags := 2, progress := false } = .error (.trap .limitDiverge 0 u) :=
  ⟨by decide, trap_of_diverges test_limit_diverge⟩

/-- FlagsCloseTheStream, its clauses on the closed block: FLUSH with a token queued at line 11 and with none. -/
theorem witness_FlagsCloseTheStream :
    (∃ t, exec (.step 1) queued = .next t ∧ (t.rerr, t.ser.bitpos) = (false, 18)) ∧
    (∃ t, exec (.step 1) State.reset = .next t ∧ (t.rerr, t.ser.bitpos) = (false, 0)) ∧
    (∃ u, quiesce (queued.beginStep 1).stepFuel (queued.beginStep 1) = .ok u) ∧ queued.q ≠ [] :=
  ⟨next_of_after (f := fun t => (t.rerr, t.ser.bitpos)) (by decide +kernel),
    next_of_after (f := fun t => (t.rerr, t.ser.bitpos)) (by decide +kernel), handed_on (by decide +kernel),
    by decide⟩

/-- FindIsLongestThenNearest and TokenReproducesInput: a match (M3 at `P = 9`) and a literal. -/
theorem witness_FindIsLongestThenNearest :
    (let s := { consumed Params.default
        [0x61, 0x62, 0x63, 0x64, 0x58, 0x61, 0x62, 0x63, 0x59, 0x61, 0x62, 0x63, 0x64] with p := 9 }
     s.canFind = true ∧ find s = .ref 9 4) ∧
    (let s := consumed Params.default [0x61]; s.canFind = true ∧ find s = .lit 0x61) := by decide +kernel

/-- CuttingTheInputIsUnobservable: `aaaa` in two ranges of two bytes. -/
theorem witness_CuttingTheInputIsUnobservable :
    let s := { fed Params.default [0x61, 0x61, 0x61, 0x61] with inLen := 0 }
    s.Inv ∧ s.phase = .accumulating ∧ s.inLen = 0 ∧ (2 : Word).toNat + (2 : Word).toNat < 2 ^ 32 ∧
    (2 : BitVec 2).getLsbD 1 = true ∧
    ∃ s1 t, runStep 0 { loaded 0 2 s with flags := 0, progress := false } = .ok s1 ∧
      runStep 2 { loaded (0 + 2) 2 s1 with flags := 2, progress := false } = .ok t :=
  ⟨⟨by decide, by decide, by decide +kernel, by decide +kernel, fun _ => rfl, by decide +kernel, by decide +kernel⟩,
    rfl, rfl, by decide, by decide, both_steps_end (by decide +kernel)⟩

/-- TallyCountsQueuesAndCloses: room for more, and the last place. -/
theorem witness_TallyCountsQueuesAndCloses :
    (State.reset.qn < State.reset.params.qcap ∧ State.reset.qn + 1 ≠ State.reset.params.qcap) ∧
    (let s := { State.reset with params := { Params.default with qcap := 1 } }
     s.qn < s.params.qcap ∧ s.qn + 1 = s.params.qcap) := by decide +kernel

/-- TablesCountTheQueue, with a token queued. -/
theorem witness_TablesCountTheQueue : queued.Inv ∧ queued.phase ≠ .fault ∧ queued.qn = 1 :=
  ⟨inv_queued, by decide, rfl⟩

/-- The hypotheses about a built code (UnusedSymbolsHaveNoCode, CodeLengthsFillTheSpace, CodesArePrefixFree,
CodesGoOutMsbFirst), with a code that had to be limited (H8) beside an unused symbol. -/
theorem witness_built_code :
    2 ≤ (leaves [1, 1, 2, 3, 5, 8, 13, 0]).length ∧
    (∃ b, buildCode [1, 1, 2, 3, 5, 8, 13, 0] 1 4 = .ok b) ∧ entry [1, 1, 2, 3, 5, 8, 13, 0] 7 = 0 :=
  ⟨by decide, handed_on (by decide +kernel), by decide⟩

/-- EqualLengthCodesAreConsecutive: the example of R146, symbols 1 and 2. -/
theorem witness_EqualLengthCodesAreConsecutive :
    let len := [1, 4, 4, 3, 2]
    (∀ l ∈ len, l ≤ 15) ∧ 1 < 2 ∧ 2 < len.length ∧ 0 < entry len 1 ∧ entry len 2 = entry len 1 ∧
    (∀ u, 1 < u → u < 2 → entry len u ≠ entry len 1) ∧ entry (canonMsb len 15) 2 = 15 :=
  ⟨by decide, by decide, by decide, by decide, by decide, by omega, by decide +kernel⟩

/-- NumCodesCutsAfterLastUsed: a code past the minimum, and none at all. -/
theorem witness_NumCodesCutsAfterLastUsed :
    numCodes [0, 2, 0] 1 = 2 ∧ 0 < entry [0, 2, 0] 1 ∧ numCodes [0, 0] 1 = 1 := by decide +kernel

/-- LengthSymbolCoversLength and DistanceSymbolCoversDistance at the ends of their ranges. -/
theorem witness_symbols_cover :
    (3 ≤ 3 ∧ 3 ≤ 258 ∧ lenCode 3 = 0) ∧ (3 ≤ 258 ∧ 258 ≤ 258 ∧ lenCode 258 = 28) ∧
    (1 ≤ 1 ∧ 1 ≤ 32768 ∧ distCode 1 = 0) ∧ (1 ≤ 32768 ∧ 32768 ≤ 32768 ∧ distCode 32768 = 29) := by decide +kernel

/-- RunLengthCodingIsLossless: a sequence that uses every kind of symbol. -/
theorem witness_RunLengthCodingIsLossless :
    let seq := [5, 5, 5, 5, 0, 0, 0, 15] ++ List.replicate 11 0
    (∀ l ∈ seq, l ≤ 15) ∧ (rle seq).map ClSym.sym = [5, 16, 17, 15, 18] := by decide +kernel

/-- EstimatesEqualBitsWritten, with a token queued. -/
theorem witness_EstimatesEqualBitsWritten :
    queued.Inv ∧ queued.phase = .accumulating ∧ ∃ z, queued.sizing = .ok z :=
  ⟨inv_queued, rfl, handed_on (by decide +kernel)⟩

/-- CloseBlockWritesTheChosenRow. -/
theorem witness_CloseBlockWritesTheChosenRow : ∃ t, closeBlock true queued = .ok t :=
  handed_on (by decide +kernel)

/-- PutBitsAppendsToStream: the widest field, the empty one, onto pending bits. -/
theorem witness_PutBitsAppendsToStream :
    let z := holding 5 3
    z.wf ∧ 16 ≤ 16 ∧ 0xFFFF < 2 ^ 16 ∧ z.bitpos + 16 < 2 ^ 64 ∧ 0 ≤ 16 ∧ 0 < 2 ^ 0 := by decide +kernel

/-- AlignPadsWithZeros: pending bits, and none. -/
theorem witness_AlignPadsWithZeros :
    ((holding 7 3).wf ∧ (holding 7 3).bitpos + 8 < 2 ^ 64) ∧
    ((holding 0 0).wf ∧ (holding 0 0).bitpos + 8 < 2 ^ 64 ∧ (holding 0 0).nb = 0) := by decide +kernel

/-- PutBytesAppendsBytes, both clauses. -/
theorem witness_PutBytesAppendsBytes :
    ((holding 0 0).wf ∧ (holding 0 0).nb = 0 ∧ (holding 0 0).bitpos + 8 * [(0xDE : Byte), 0xAD].length < 2 ^ 64) ∧
    ((holding 7 3).wf ∧ (holding 7 3).nb ≠ 0) := by decide +kernel

/-- SymbolRowsSendTheirCode and CodeLengthRowsSendTheirCode: a row with extra bits and one without. -/
theorem witness_rows_send_their_code :
    emittingQueued.phase = .emitting ∧ emittingQueued.ser.wf ∧ emittingQueued.ser.bitpos + 64 < 2 ^ 64 ∧
      ∃ z, emittingQueued.sizing = .ok z ∧
      (∃ fs, symbolFields (emittingQueued.blockCodes z) .eob = some fs) ∧
      (∃ fs, symbolFields (emittingQueued.blockCodes z) (.dist29 0) = some fs) ∧
      (∃ fs, codeLengthFields z.bl.table .cl0 = some fs) ∧
      (∃ fs, codeLengthFields z.bl.table (.cl18 0) = some fs) := by
  obtain ⟨z, hz⟩ := handed_on (r := emittingQueued.sizing) (by decide +kernel)
  exact ⟨by decide +kernel, by decide +kernel, by decide +kernel, z, hz, ⟨_, rfl⟩, ⟨_, rfl⟩, ⟨_, rfl⟩, ⟨_, rfl⟩⟩

/-- StaticRowsSendTheirCode, at the ends of each row's range. -/
theorem witness_StaticRowsSendTheirCode :
    emittingEmpty.phase = .emitting ∧ emittingEmpty.ser.wf ∧ emittingEmpty.ser.bitpos + 16 < 2 ^ 64 ∧
    ∀ i ∈ [Instr.staticLl0To143 0x30, .staticLl0To143 0xBF, .staticLl144To255 0x90, .staticLl144To255 0xFF,
      .staticLl256To279 0, .staticLl256To279 23, .staticLl280To287 0, .staticLl280To287 5, .staticDist 0,
      .staticDist 29], i.wf = true ∧ (staticRow i).isSome = true := by decide +kernel

/-- StoredRowsWriteStoredBlock, StaticRowsWriteStaticBlock and DynamicRowsWriteDynamicBlock, with a token queued. -/
theorem witness_block_rows :
    let s := emittingQueued
    s.phase = .emitting ∧ s.ser.wf ∧ s.blkStart ≤ s.p ∧ s.p ≤ s.totalIn ∧ s.blkLen ≤ 65535 ∧
    s.ser.bitpos + 42 + 8 * s.blkLen < 2 ^ 64 ∧ s.params.legal ∧ (∀ e ∈ s.q, e.wf s.params) ∧
    s.lfreq.length = 286 ∧ s.dfreq.length = 30 ∧ s.blfreq.length = 19 ∧ (∃ z, s.sizing = .ok z) ∧
    s.ser.bitpos + 16384 + 64 * s.qn < 2 ^ 64 ∧ s.ser.bitpos + 16 + 64 * s.qn < 2 ^ 64 :=
  ⟨by decide +kernel, by decide +kernel, by decide +kernel, by decide +kernel, by decide +kernel, by decide +kernel,
    by decide +kernel, by decide +kernel,
    by decide +kernel, by decide +kernel, by decide +kernel, handed_on (by decide +kernel), by decide +kernel,
    by decide +kernel⟩

/-- ReservedRowsAreRefused. -/
theorem witness_ReservedRowsAreRefused :
    reservedRow (.blockReserved 0) = true ∧ reservedRow (.llReserved 1) = true ∧ reservedRow (.distReserved 1) =
      true := by
  decide

/-- ClosedRunSendsNothing: between commands, in `DONE` and in `FAULT`. -/
theorem witness_ClosedRunSendsNothing :
    (encode .eob).1 ≠ .cmdw ∧ reservedRow .eob = false ∧ State.reset.phase ≠ .emitting ∧ doneState.phase ≠ .emitting ∧
    faultState.phase ≠ .emitting := by
  decide

/-- DecodeEncodeRoundTrip and EncodeDecodeRoundTrip: the largest extra value symbol 284 has. -/
theorem witness_round_trips :
    (Instr.len284 30).wf = true ∧ decode .llsym 0b11110_100011100 = .ok (.len284 30) := by
  exact ⟨by decide, by decide +kernel⟩

/-- StepRunsTheNextAction, its four clauses. -/
theorem witness_StepRunsTheNextAction :
    (let s := { State.reset with script := [.write 0 4 0x23] }
     s.phase ≠ .emitting ∧ s.script = .write 0 4 0x23 :: [] ∧ decode .cmdw 0x23 = .ok (.step 2)) ∧
    (State.reset.phase ≠ .emitting ∧ State.reset.script = []) ∧
    (let s := { emittingQueued with emission := [(.llsym, 0x41)] }
     s.phase = .emitting ∧ s.emission = (.llsym, 0x41) :: [] ∧ Format.llsym ≠ .cmdw ∧
     decode .llsym 0x41 = .ok (.lit 0x41)) ∧
    (emittingQueued.phase = .emitting ∧ emittingQueued.emission = []) :=
  ⟨⟨by decide, rfl, rfl⟩, ⟨by decide, rfl⟩, ⟨by decide +kernel, rfl, by decide, rfl⟩,
    ⟨by decide +kernel, by decide +kernel⟩⟩

/-- PlacedWordRunsNext: a command, a block header, a symbol and a static code. -/
theorem witness_PlacedWordRunsNext :
    decodeTableWord 32 0x23 = some (.step 2) ∧ decodeTableWord 8 5 = some .blockDynamicFinal ∧
    decodeTableWord 16 256 = some .eob ∧ decodeTableWord 8 0x71 = some (.staticLl0To143 0x71) ∧
    (encode (.step 2)).1 = .cmdw ∧ State.reset.phase ≠ .emitting ∧ (encode .eob).1 ≠ .cmdw := by decide

/-- RegisterWindowBehaves: a narrow access, a misaligned one, and every offset the statement names is an aligned one. -/
theorem witness_RegisterWindowBehaves :
    ((2 : Nat) ≠ 4) ∧ ((0x02 : Word).toNat % 4 ≠ 0) ∧
    [(0x00 : Word), 0x04, 0x08, 0x0C, 0x10, 0x14, 0x18, 0x1C, 0x20, 0x24, 0x28, 0x2C, 0x30].all
      (fun off => off.toNat % 4 == 0) = true ∧
    ((0x04 : Word) ≠ 0 ∧ (0x04 : Word) ≠ 0x0C ∧ (0x04 : Word) ≠ 0x10 ∧ (0x04 : Word) ≠ 0x14) ∧
    0x30 ≤ (0x30 : Word).toNat := by decide +kernel

/-- EveryStepKeepsTheInvariant, CoreNeverWritesTheHostsSide, OutputIsAppendOnly and PhaseTransitionsAreThoseAllowed:
a STEP
FINISH of `aaaa`, pending as the next action. -/
theorem witness_step_of_a_script :
    let s := { fed Params.default [0x61, 0x61, 0x61, 0x61] with script := [.write 0 4 0x23] }
    s.Inv ∧ s.controlInv ∧ s.script = .write 0 4 0x23 :: [] ∧ HostAction.resets (.write 0 4 0x23) = false ∧
    (∃ t, step s = .next t ∧ t.phase = .done) ∧ (∃ t, exec (.step 2) s = .next t ∧ t.phase = .done) :=
  ⟨⟨by decide, by decide, by decide +kernel, by decide +kernel, fun _ => rfl, by decide +kernel, by decide +kernel⟩,
    by decide, rfl, by decide, next_of_after (f := State.phase) (by decide +kernel),
    next_of_after (f := State.phase) (by decide +kernel)⟩

/-- OutputIsAppendOnly, its last clause: a RESET is excluded, a NEEDS_INPUT is not. -/
theorem witness_OutputIsAppendOnly :
    let s := { State.reset with script := [.write 0 4 2] }
    s.script = .write 0 4 2 :: [] ∧ HostAction.resets (.write 0 4 2) = false ∧ s.phase ≠ .emitting ∧
    (∀ fl : BitVec 2, HostAction.write 0 4 2 ≠ .write 0 4 (.ofNat 32 (3 + 16 * fl.toNat))) ∧
    ∃ t, step s = .next t ∧ t.rval = 1 :=
  ⟨rfl, by decide, by decide, by decide, next_of_after (f := State.rval) (by decide +kernel)⟩

/-- OnlyResetLeavesFault, both clauses. -/
theorem witness_OnlyResetLeavesFault :
    (let s := { faultState with script := [.write 0 4 0x23] }
     s.phase = .fault ∧ s.script = .write 0 4 0x23 :: [] ∧ HostAction.resets (.write 0 4 0x23) = false ∧
     ∃ t, step s = .next t ∧ t.phase = .fault) ∧
    (let s := { faultState with script := [.powerOn] }
     s.phase = .fault ∧ s.script = .powerOn :: [] ∧ HostAction.resets .powerOn = true ∧
     ∃ t, step s = .next t ∧ t.phase = .accumulating) :=
  ⟨⟨rfl, rfl, by decide, next_of_after (f := State.phase) (by decide +kernel)⟩,
    ⟨rfl, rfl, by decide, next_of_after (f := State.phase) (by decide +kernel)⟩⟩

/-- MemoryFormIsCanonical: a memory made by writes, among them one that takes a cell away. -/
theorem witness_MemoryFormIsCanonical :
    let m := Memory.write (Memory.write (Memory.write [] 7 0x41) 3 0x42) 7 0x00
    m.wf ∧ m = [(3, 0x42)] := by decide +kernel

end Sys2Proof.Tests
end

/-! PROOFS of the family 10_state.md: what the serializer, a command word, FIND, TALLY and CLOSE_BLOCK keep, the invariant
between commands (R40), the phases (R21), power-on (R39) and the register window (R38). -/

namespace Sys2Proof.Machine

/-! ### The serializer keeps its counts (43_bit_serializer.md R193) -/

/-- The serializer between two elements: its counts agree and `BITPOS` is in range (10_state.md R34, U11). -/
def Serializer.sound (z : Serializer) : Prop := z.wf ∧ z.bitpos < Config.maxBitpos

@[simp] theorem wholeBytes_length (k t : Nat) : (wholeBytes k t).length = k := by
  induction k generalizing t with
  | zero => rfl
  | succ k ih => simp [wholeBytes, ih]

/-- What `PUT_BITS` works on, `ACC` with the field above it, has `NB + n` bits. -/
theorem acc_add_field_lt {acc nb v n : Nat} (ha : acc < 2 ^ nb) (hv : v < 2 ^ n) :
    acc + v * 2 ^ nb < 2 ^ (nb + n) := by
  have hstep : (v + 1) * 2 ^ nb ≤ 2 ^ n * 2 ^ nb := Nat.mul_le_mul_right _ hv
  rw [Nat.add_mul, Nat.one_mul] at hstep
  rw [Nat.pow_add, Nat.mul_comm (2 ^ nb)]
  omega

/-- Taking the whole bytes off `m` bits leaves `m mod 8` of them. -/
theorem div_wholeBytes_lt {t m : Nat} (h : t < 2 ^ m) : t / 256 ^ (m / 8) < 2 ^ (m % 8) := by
  have hpow : (256 : Nat) ^ (m / 8) * 2 ^ (m % 8) = 2 ^ m := by
    rw [show (256 : Nat) = 2 ^ 8 from rfl, ← Nat.pow_mul, ← Nat.pow_add, Nat.div_add_mod]
  exact Nat.div_lt_of_lt_mul (hpow ▸ h)

/-- PUT_BITS keeps `NB`, `|OUT|` and `ACC` in step with `BITPOS`. -/
theorem push_wf {z : Serializer} {f : BitField} (hz : z.wf) (hf : f.fits = true) : (z.push f).wf := by
  obtain ⟨hnb, hout, hacc⟩ := hz
  obtain ⟨-, hv⟩ : f.n ≤ 16 ∧ f.v < 2 ^ f.n := by simpa [BitField.fits] using hf
  have hrest := div_wholeBytes_lt (acc_add_field_lt hacc hv)
  have hnb' : (z.push f).nb.toNat = (z.nb.toNat + f.n) % 8 := by
    simp [Serializer.push]
  refine ⟨?_, ?_, ?_⟩
  · rw [hnb', push_bitpos]; omega
  · simp only [Serializer.push, List.length_append, wholeBytes_length]; omega
  · rw [hnb']
    exact lt_of_le_of_lt (by simpa [Serializer.push] using Nat.mod_le _ _) hrest

theorem putBits_sound {f : BitField} {z z' : Serializer} (hz : z.wf) (h : putBits f z = .ok z') : z'.sound := by
  obtain ⟨hf, hb, rfl⟩ := putBits_eq_ok h
  exact ⟨push_wf hz hf, hb⟩

/-- Two serializer operations in a row end well where each does. -/
theorem serThen_ok {first : Except Refusal Serializer} {rest : Serializer → Except Refusal Serializer}
    {z' : Serializer} (h : first.bind rest = .ok z') : ∃ z, first = .ok z ∧ rest z = .ok z' := by
  cases first with
  | error r => cases h
  | ok z => exact ⟨z, rfl, h⟩

theorem putFields_sound {fs : List BitField} {z z' : Serializer} (hz : z.sound) (h : putFields fs z = .ok z') :
    z'.sound := by
  induction fs generalizing z with
  | nil => cases h; exact hz
  | cons f fs ih =>
    obtain ⟨y, hy, hrest⟩ := serThen_ok h
    exact ih (putBits_sound hz.1 hy) hrest

theorem align_sound {z z' : Serializer} (hz : z.sound) (h : align z = .ok z') : z'.sound := by
  unfold align at h
  split at h
  · cases h; exact hz
  · exact putBits_sound hz.1 h

/-- ALIGN ends on a byte boundary (43_bit_serializer.md R191). -/
theorem align_nb {z z' : Serializer} (h : align z = .ok z') : z'.nb = 0 := by
  unfold align at h
  split at h
  · next hnb => cases h; exact hnb
  · obtain ⟨-, -, rfl⟩ := putBits_eq_ok h
    have hfill : z.nb.toNat + (8 - z.nb.toNat) = 8 := by omega
    simp [Serializer.push, hfill]

theorem putBytes_sound {bs : List Byte} {z z' : Serializer} (hz : z.wf) (h : putBytes bs z = .ok z') :
    z'.sound := by
  unfold putBytes at h
  split at h
  · split at h
    · next hb =>
      cases h
      obtain ⟨hnb, hout, hacc⟩ := hz
      refine ⟨⟨?_, ?_, hacc⟩, hb⟩
      · dsimp only; omega
      · simp only [List.length_append]; omega
    · cases h
  · cases h

/-- Line 12 of CLOSE_BLOCK keeps the serializer's counts, in each encoding (42_block_coordinator.md R170 to R172). -/
theorem emitBlock_sound {kind : BlockKind} {final : Bool} {z : Sizing} {s : State} {w : Serializer}
    (hs : s.ser.sound) (h : emitBlock kind final z s = .ok w) : w.sound := by
  cases kind with
  | stored =>
    obtain ⟨header, hheader, h⟩ := serThen_ok h
    obtain ⟨padded, hpadded, h⟩ := serThen_ok h
    obtain ⟨sized, hsized, h⟩ := serThen_ok h
    exact putBytes_sound (putFields_sound (align_sound (putBits_sound hs.1 hheader) hpadded) hsized).1 h
  | fixed => exact putFields_sound hs h
  | dynamic => exact putFields_sound hs h

/-! ### How a run of micro-operations ends -/

/-- Every way the run `r` can end: a result satisfies `Q`, a trap satisfies `T`. A stuck or refused run gives no next
state, so nothing is asked of it. -/
def Ends {α : Type} (T : FCode → State → Prop) (Q : α → Prop) : Except Stop α → Prop
  | .ok a => Q a
  | .error (.trap code _ s) => T code s
  | .error _ => True

section Ends
variable {α β : Type} {T : FCode → State → Prop} {Q : α → Prop} {R : β → Prop}

theorem ends_bind {r : Except Stop α} {f : α → Except Stop β} (h : Ends T Q r) (hf : ∀ a, Q a → Ends T R (f a)) :
    Ends T R (r.bind f) := by
  rcases r with (⟨code, info, s⟩ | stuck | refused) | a
  · exact h
  · trivial
  · trivial
  · exact hf a h

theorem ends_liftRefusal {r : Except Refusal α} (h : ∀ a, r = .ok a → Q a) : Ends T Q (liftRefusal r) := by
  cases r with
  | error e => trivial
  | ok a => exact h a rfl

/-- A next state comes from a run that ended, or is the internal fault of one that trapped. -/
theorem ends_finish {Q : State → Prop} {r : Except Stop State} {t : State} (h : Ends T Q r)
    (ht : finish r = .next t) : Q t ∨ ∃ code info u, T code u ∧ t = raiseInternalFault code info u := by
  rcases finish_next ht with rfl | ⟨code, info, u, rfl, rfl⟩
  · exact .inl h
  · exact .inr ⟨code, info, u, h, rfl⟩

end Ends

/-- CLOSE_BLOCK traps only in the sizing of the block, with `F_LIMIT_DIVERGE`; where it ends well it emitted one block
and emptied the tables and the queue (42_block_coordinator.md R160, 41_huffman_builder.md R151). -/
theorem closeBlock_ends {T : FCode → State → Prop} {Q : State → Prop} {final : Bool} {s : State}
    (htrap : T .limitDiverge s.beginSizing)
    (hok : ∀ kind z w, emitBlock kind final z (s.beginSizing.beginEmitting z) = .ok w →
      Q { s.clearedBlock with ser := w, phase := .accumulating }) :
    Ends T Q (closeBlock final s) := by
  unfold closeBlock
  split
  · dsimp only
    split
    · exact htrap
    · next z _ =>
      refine ends_bind (ends_liftRefusal fun w hw => hw) fun w hw => ?_
      rw [resetBlock_eq]
      exact hok _ z w hw
  · trivial

/-- TALLY records the token and closes the block where the queue is then full (40_match_finder.md R126). -/
theorem tally_ends {T : FCode → State → Prop} {Q : State → Prop} {k : Token} {s : State}
    (hfull : s.qn + 1 = s.params.qcap → Ends T Q (closeBlock false (record k s)))
    (hroom : s.qn + 1 < s.params.qcap → Q (record k s)) : Ends T Q (tally k s) := by
  unfold tally
  split
  · next hq =>
    dsimp only
    split
    · next hf => exact hfull (by simpa using hf)
    · next hf =>
      have hne : s.qn + 1 ≠ s.params.qcap := by simpa using hf
      exact hroom (by omega)
  · trivial

theorem fill_ends {T : FCode → State → Prop} {Q : State → Prop} {s : State} (h : ∀ t, fill s = .ok t → Q t) :
    Ends T Q (fill s) := by
  cases hr : fill s with
  | ok t => exact h t hr
  | error stop =>
    unfold fill at hr
    dsimp only at hr
    split at hr
    · cases hr
    · cases hr; trivial

/-! ### What the micro-operations of STEP keep, STEP keeps (44_host_commands.md R205) -/

/-- `P` holds after each micro-operation a STEP runs where it held before it, and every trap of one satisfies `T`. -/
structure KeptInStep (T : FCode → State → Prop) (P : State → Prop) : Prop where
  fill : ∀ s, P s → s.fillEnabled = true → Ends T P (fill s)
  tally : ∀ s, P s → s.canFind = true → Ends T P (tally (find s) (advance (find s) s))
  close : ∀ final s, P s → Ends T P (closeBlock final s)
  progress : ∀ s, P s → P { s with progress := true }

namespace KeptInStep
variable {T : FCode → State → Prop} {P Q : State → Prop} (kept : KeptInStep T P)
include kept

theorem matchLoop_ends (fuel : Nat) {s : State} (h : P s) : Ends T (fun r => P r.1) (matchLoop fuel s) := by
  induction fuel generalizing s with
  | zero => exact h
  | succ fuel ih =>
    rw [matchLoop]
    split
    · next hcan => exact ends_bind (kept.tally s h hcan) fun u hu => ends_bind (ih hu) fun _ hr => hr
    · exact h

theorem fillIfEnabled_ends {s : State} (h : P s) : Ends T P (fillIfEnabled s) := by
  unfold fillIfEnabled
  split
  · next hfill => exact kept.fill s h hfill
  · exact h

theorem quiesce_ends (fuel : Nat) {s : State} (h : P s) : Ends T P (quiesce fuel s) := by
  induction fuel generalizing s with
  | zero => exact h
  | succ fuel ih =>
    rw [quiesce]
    refine ends_bind (kept.fillIfEnabled_ends h) fun u hu => ends_bind (kept.matchLoop_ends u.la hu) fun r hr => ?_
    split
    · exact ih (kept.progress r.1 hr)
    · exact hr

/-- Lines 12 to 15 of STEP: `Q` holds of the open stream and of the one FINISH pads and closes. -/
theorem closeByFlags_ends {fl : BitVec 2} {s : State} (h : P s) (hopen : ∀ u, P u → Q u)
    (hdone : ∀ u ser, finishFlag fl = true → P u → align u.ser = .ok ser →
      Q { u with ser := ser, phase := .done, progress := true }) :
    Ends T Q (closeByFlags fl s) := by
  unfold closeByFlags
  split
  · next hfin =>
    exact ends_bind (kept.close true s h) fun u hu =>
      ends_bind (ends_liftRefusal fun _ hser => hser) fun ser hser => hdone u ser hfin hu hser
  · split
    · exact ends_bind (kept.close false s h) fun u hu => hopen _ (kept.progress u hu)
    · exact hopen s h

/-- A STEP outside `DONE`: `Q` holds where it ends well, up to the response. -/
theorem runStep_ends {fl : BitVec 2} {s : State} (h : P s) (hphase : s.phase ≠ .done) (hopen : ∀ u, P u → Q u)
    (hdone : ∀ u ser, finishFlag fl = true → P u → align u.ser = .ok ser →
      Q { u with ser := ser, phase := .done, progress := true })
    (hrespond : ∀ v u, Q u → Q (respondOk v u)) : Ends T Q (runStep fl s) := by
  rw [runStep, if_neg hphase]
  exact ends_bind (kept.quiesce_ends s.stepFuel h) fun u hu =>
    ends_bind (kept.closeByFlags_ends hu hopen hdone) fun v hv => hrespond _ v hv

end KeptInStep

/-! ### What a command word can do -/

theorem unlessFaulted_next {s t : State} {k : Host.Outcome State Fault Refusal} (h : unlessFaulted s k = .next t) :
    (s.phase = .fault ∧ t = respondErr s.fcode s) ∨ (s.phase ≠ .fault ∧ k = .next t) := by
  unfold unlessFaulted at h
  split at h
  · next hp => exact .inl ⟨hp, (Host.Outcome.next.inj h).symm⟩
  · next hp => exact .inr ⟨hp, h⟩

/-- The instruction of a command word, and for RESET and STEP the word itself (30_encoding.md R80, R82). -/
theorem decodeCmd_cases (w : Word) :
    (decodeCmd w = .reset ∧ w = 0) ∨ decodeCmd w = .setInput ∨ decodeCmd w = .needsInput ∨
    decodeCmd w = .getChecksum ∨ decodeCmd w = .reservedCmd w ∨
    ∃ fl : BitVec 2, decodeCmd w = .step fl ∧ w.toNat = 3 + 16 * fl.toNat := by
  unfold decodeCmd
  dsimp only
  split
  · simp
  · split
    · refine .inr (.inr (.inr (.inr (.inr ⟨_, rfl, ?_⟩))))
      simp only [BitVec.toNat_ofNat]
      omega
    · split
      · next hw => exact .inl ⟨rfl, BitVec.eq_of_toNat_eq hw⟩
      all_goals simp

/-- Everything a command word written to `CMD` can do (44_host_commands.md R200 to R207). -/
theorem exec_decodeCmd_next {w : Word} {s t : State} (h : exec (decodeCmd w) s = .next t) :
    (w = 0 ∧ t = respondOk 0 (commandReset s)) ∨
    (s.phase = .fault ∧ t = respondErr s.fcode s) ∨
    (s.phase ≠ .fault ∧
      ((∃ code info, code ≠ .none ∧ t = raiseFault code info s) ∨
       t = respondOk 0 { s with inOff := s.argOff, inLen := s.argLen } ∨
       (∃ v, t = respondOk v s) ∨
       ∃ fl : BitVec 2, w.toNat = 3 + 16 * fl.toNat ∧ finish (runStep fl (s.beginStep fl)) = .next t)) := by
  rcases decodeCmd_cases w with ⟨hd, hw⟩ | hd | hd | hd | hd | ⟨fl, hd, hw⟩ <;> rw [hd] at h
  · exact .inl ⟨hw, (Host.Outcome.next.inj h).symm⟩
  all_goals refine .inr ((unlessFaulted_next h).imp_right fun ⟨hp, hn⟩ => ⟨hp, ?_⟩)
  · split at hn
    · exact .inl ⟨_, _, by simp, (Host.Outcome.next.inj hn).symm⟩
    · split at hn
      · exact .inl ⟨_, _, by simp, (Host.Outcome.next.inj hn).symm⟩
      · split at hn
        · exact .inl ⟨_, _, by simp, (Host.Outcome.next.inj hn).symm⟩
        · exact .inr (.inl (Host.Outcome.next.inj hn).symm)
  · exact .inr (.inr (.inl ⟨_, (Host.Outcome.next.inj hn).symm⟩))
  · exact .inr (.inr (.inl ⟨_, (Host.Outcome.next.inj hn).symm⟩))
  · exact .inl ⟨_, _, by simp, (Host.Outcome.next.inj hn).symm⟩
  · exact .inr (.inr (.inr ⟨fl, hw, hn⟩))

/-! ### What FIND reports (40_match_finder.md R123) -/

theorem commonPrefix_le (lim : Nat) (as bs : List Byte) : commonPrefix lim as bs ≤ lim := by
  induction lim generalizing as bs with
  | zero => simp [commonPrefix]
  | succ lim ih =>
    cases as with
    | nil => simp [commonPrefix]
    | cons a as =>
      cases bs with
      | nil => simp [commonPrefix]
      | cons b bs =>
        have := ih as bs
        simp only [commonPrefix]
        split <;> omega

/-- A candidate the search may report: no longer than the limit and, if it matches at all, at a distance in reach. -/
def Candidate (lim reach : Nat) (c : Nat × Nat) : Prop := c.2 ≤ lim ∧ (0 < c.2 → 1 ≤ c.1 ∧ c.1 ≤ reach)

theorem searchDown_candidate {lim reach : Nat} {cur : List Byte} {d : Nat} (hd : d ≤ reach) {src : List Byte}
    {best : Nat × Nat} (hbest : Candidate lim reach best) :
    Candidate lim reach (searchDown lim cur d src best) := by
  induction d generalizing src best with
  | zero => exact hbest
  | succ d ih =>
    rw [searchDown]
    refine ih (by omega) ?_
    unfold nearerIfAsLong
    split
    · exact ⟨commonPrefix_le _ _ _, fun _ => ⟨Nat.succ_pos d, hd⟩⟩
    · exact hbest

theorem bestMatch_candidate (s : State) : Candidate s.matchLimit (min s.p s.params.wsize) s.bestMatch :=
  searchDown_candidate le_rfl ⟨Nat.zero_le _, fun h => absurd h (lt_irrefl 0)⟩

/-- A token the parameters allow: a match keeps to their lengths and distances (00_scope.md R6, R7, R17). -/
def Token.legal (c : Params) : Token → Prop
  | .lit _ => True
  | .ref d l => 1 ≤ d ∧ d ≤ c.wsize ∧ 3 ≤ l ∧ l ≤ c.maxMatch

theorem find_legal (s : State) : (find s).legal s.params := by
  obtain ⟨hlim, hreach⟩ := bestMatch_candidate s
  have hmatch : s.matchLimit ≤ s.params.maxMatch := min_le_right ..
  unfold find
  dsimp only
  split
  · next hmin =>
    have hmin : 3 ≤ s.bestMatch.2 := hmin
    obtain ⟨hlow, hhigh⟩ := hreach (by omega)
    exact ⟨hlow, by omega, hmin, by omega⟩
  · trivial

/-- A token covers no more than the lookahead. -/
theorem find_span_le {s : State} (h : s.canFind = true) : (find s).span ≤ s.la := by
  obtain ⟨hlim, -⟩ := bestMatch_candidate s
  have hla : s.matchLimit ≤ s.la := min_le_left ..
  have hone : 1 ≤ s.la := by
    simp only [State.canFind, Bool.and_eq_true, decide_eq_true_eq] at h
    obtain ⟨⟨-, hone⟩, -⟩ := h
    exact hone
  unfold find
  dsimp only
  split
  · exact hlim.trans hla
  · exact hone

/-! ### Queue entries (10_state.md R31) -/

/-- A legal match fits the fields of its queue entry. -/
theorem Token.entry_ref_toNat {c : Params} {d l : Nat} (hc : c.legal) (hk : (Token.ref d l).legal c) :
    (Token.ref d l).entry.d.toNat = d ∧ (Token.ref d l).entry.a.toNat = l := by
  obtain ⟨⟨-, hw⟩, -, -, -, hm⟩ := hc
  obtain ⟨-, hd, -, hl⟩ := hk
  exact ⟨Nat.mod_eq_of_lt (by omega), Nat.mod_eq_of_lt (by omega)⟩

theorem Token.entry_lit_toNat (b : Byte) : (Token.lit b).entry.a.toNat = b.toNat :=
  Nat.mod_eq_of_lt (by omega)

theorem QEntry.d_ne_zero {e : QEntry} : e.d ≠ 0 ↔ 1 ≤ e.d.toNat := by
  rw [ne_eq, ← BitVec.toNat_inj]
  exact Nat.pos_iff_ne_zero.symm

section
variable {c : Params} {k : Token} (hc : c.legal) (hk : k.legal c)
include hc hk

/-- A queue entry stands for the token it was made of. -/
theorem Token.token_entry : k.entry.token = k := by
  cases k with
  | lit b =>
    have hd : (Token.lit b).entry.d = 0 := rfl
    rw [QEntry.token, if_pos hd, Token.entry_lit_toNat, BitVec.ofNat_toNat, BitVec.setWidth_eq]
  | ref d l =>
    obtain ⟨hd, hl⟩ := Token.entry_ref_toNat hc hk
    have hne : (Token.ref d l).entry.d ≠ 0 := QEntry.d_ne_zero.2 (hd.symm ▸ hk.1)
    rw [QEntry.token, if_neg hne, hd, hl]

theorem Token.entry_wf : k.entry.wf c := by
  cases k with
  | lit b => exact ⟨fun _ => (Token.entry_lit_toNat b).symm ▸ b.isLt, fun h => absurd rfl h⟩
  | ref d l =>
    obtain ⟨hd, hl⟩ := Token.entry_ref_toNat hc hk
    obtain ⟨hd₁, hdw, hl₃, hlm⟩ := hk
    have hne : (Token.ref d l).entry.d ≠ 0 := QEntry.d_ne_zero.2 (hd.symm ▸ hd₁)
    exact ⟨fun h => absurd h hne, fun _ => by rw [hd, hl]; exact ⟨hl₃, hlm, hdw⟩⟩

end

/-! ### The tallies of a queue (40_match_finder.md R126) -/

/-- `DFREQ` after one more token. -/
def tallyDistance (t : List Word) (k : Token) : List Word :=
  match k.distSymbol with
  | some c => bump t c
  | none => t

theorem record_dfreq_eq_tallyDistance (k : Token) (s : State) : (record k s).dfreq = tallyDistance s.dfreq k := by
  cases k <;> rfl

theorem talliedLit_append (q : List QEntry) (e : QEntry) :
    talliedLit (q ++ [e]) = bump (talliedLit q) e.token.litSymbol := by
  simp [talliedLit]

theorem talliedDist_append (q : List QEntry) (e : QEntry) :
    talliedDist (q ++ [e]) = tallyDistance (talliedDist q) e.token := by
  simp only [talliedDist, List.foldl_append, List.foldl_cons, List.foldl_nil]
  rfl

theorem total_append (l : List Nat) (n : Nat) : total (l ++ [n]) = total l + n := by simp [total]

/-! ### The invariant inside a STEP

Between commands `State.Inv` holds. Inside a STEP its control, stream and position part holds at every micro-operation,
while what it says of the block's tables and queue fails for the moment in which a full queue is being closed; so the
two parts are kept apart. -/

/-- What holds at every micro-operation of a STEP, whatever the current block holds. -/
structure State.StreamInv (s : State) : Prop where
  host : s.hostInv
  phase : s.phase = .accumulating
  fcode : s.fcode = .none
  emission : s.emission = []
  counters : s.counterInv
  ser : s.ser.wf
  checksum : s.cksum = s.window.foldl Config.ckFold Config.ckInit
  consumed : s.p ≤ s.totalIn
  lookahead : s.la ≤ s.params.laCap

/-- What holds of the current block while no full queue is being closed. -/
structure State.BlockInv (s : State) : Prop where
  start : s.blkStart ≤ s.p
  length : s.blkLen = total (s.q.map fun e => e.token.span)
  room : s.q.length < s.params.qcap
  entries : ∀ e ∈ s.q, e.wf s.params
  lfreq : s.lfreq = talliedLit s.q
  dfreq : s.dfreq = talliedDist s.q
  blfreq : s.blfreq = List.replicate Config.blCodes 0

/-- The invariant between two micro-operations of a STEP. -/
def State.MidStep (s : State) : Prop := s.StreamInv ∧ s.BlockInv

/-- What an internal fault needs of the state it is taken in for the invariant to hold after it. -/
def TrapKeeps (code : FCode) (s : State) : Prop := code ≠ .none ∧ s.hostInv ∧ s.counterInv

/-- In `ACCUMULATING` the invariant between commands and the one inside a STEP are the same. -/
theorem midStep_iff (s : State) : s.MidStep ↔ s.Inv ∧ s.phase = .accumulating := by
  constructor
  · rintro ⟨stream, block⟩
    have hp := stream.phase
    exact ⟨{ host := stream.host
             control := ⟨.inl hp, by simp [hp, stream.fcode], stream.emission⟩
             counters := stream.counters
             ser := fun _ => ⟨stream.ser, by simp [hp]⟩
             checksum := fun _ => stream.checksum
             position := fun _ => ⟨block.start, stream.consumed, stream.lookahead, block.length⟩
             tally := fun _ => ⟨block.room, block.entries, block.lfreq, block.dfreq, block.blfreq⟩ }, hp⟩
  · rintro ⟨inv, hp⟩
    have hf : s.phase ≠ .fault := by simp [hp]
    obtain ⟨-, hfault, hemission⟩ := inv.control
    obtain ⟨hstart, hconsumed, hla, hlen⟩ := inv.position hf
    obtain ⟨hroom, hentries, hl, hd, hbl⟩ := inv.tally hf
    exact ⟨⟨inv.host, hp, by simpa [hp] using hfault, hemission, inv.counters, (inv.ser hf).1, inv.checksum hf,
      hconsumed, hla⟩, ⟨hstart, hlen, hroom, hentries, hl, hd, hbl⟩⟩

/-! #### Each micro-operation keeps it -/

theorem qcap_pos {c : Params} (h : c.legal) : 0 < c.qcap := by
  obtain ⟨-, ⟨hpos, -⟩, -⟩ := h
  exact hpos

theorem fill_midStep {s t : State} (hs : s.MidStep) (h : fill s = .ok t) : t.MidStep := by
  obtain ⟨hbound, rfl⟩ := fill_eq_ok h
  obtain ⟨⟨hhost, hp, hfc, hem, ⟨-, hbit⟩, hser, hck, hconsumed, hla⟩, ⟨hstart, hlen, hroom, hentries, hl, hd, hbl⟩⟩ :=
    hs
  refine ⟨⟨hhost, hp, hfc, hem, ⟨?_, hbit⟩, hser, ?_, ?_, ?_⟩, ⟨hstart, hlen, hroom, hentries, hl, hd, hbl⟩⟩
  · simpa [State.totalIn] using hbound
  · simp [hck]
  · simp only [State.totalIn, List.length_append] at *
    omega
  · have hcount : s.fillCount ≤ s.params.laCap - s.la := min_le_right ..
    simp only [State.la, State.totalIn, List.length_append, inputBytes_length] at *
    omega

/-- ADVANCE and the recording half of TALLY keep the stream's part: the token lies in the lookahead. -/
theorem record_advance_streamInv {k : Token} {s : State} (hs : s.StreamInv) (hspan : k.span ≤ s.la) :
    (record k (advance k s)).StreamInv := by
  obtain ⟨hhost, hp, hfc, hem, hcount, hser, hck, hconsumed, hla⟩ := hs
  have htotal : (record k (advance k s)).totalIn = s.totalIn := by simp [State.totalIn]
  have hp' : (record k (advance k s)).p = s.p + k.span := by simp
  refine ⟨by rwa [State.hostInv, record_params, record_ibuf], by simpa, by simpa, by simpa, ?_, by simpa, by simpa,
    ?_, ?_⟩
  · rw [State.counterInv, htotal]; simpa using hcount
  · rw [htotal, hp']
    simp only [State.la] at *
    omega
  · simp only [State.la, htotal, hp', record_params, advance_params] at *
    omega

/-- ADVANCE and the recording half of TALLY keep the block's part where the queue has room for more. -/
theorem record_advance_blockInv {k : Token} {s : State} (hc : s.params.legal) (hk : k.legal s.params)
    (hs : s.BlockInv) (hroom : s.qn + 1 < s.params.qcap) : (record k (advance k s)).BlockInv := by
  obtain ⟨hstart, hlen, -, hentries, hl, hd, hbl⟩ := hs
  have htoken := Token.token_entry hc hk
  refine ⟨?_, ?_, by simpa [State.qn] using hroom, ?_, ?_, ?_, by simpa⟩
  · simpa using hstart.trans (Nat.le_add_right s.p k.span)
  · simp only [State.blkLen, record_p, record_blkStart, record_q, advance_p, advance_blkStart, advance_q,
      List.map_append, List.map_cons, List.map_nil, total_append, htoken] at *
    omega
  · simp only [record_q, advance_q, record_params, advance_params, List.mem_append, List.mem_singleton]
    rintro e (he | rfl)
    · exact hentries e he
    · exact Token.entry_wf hc hk
  · rw [record_lfreq, record_q, advance_lfreq, advance_q, talliedLit_append, htoken, hl]
  · rw [record_dfreq_eq_tallyDistance, record_q, advance_dfreq, advance_q, talliedDist_append, htoken, hd]

/-- CLOSE_BLOCK needs the stream's part only, and leaves an empty block. -/
theorem closeBlock_midStep {final : Bool} {s : State} (hs : s.StreamInv) :
    Ends TrapKeeps State.MidStep (closeBlock final s) := by
  obtain ⟨hhost, hp, hfc, hem, hcount, hser, hck, hconsumed, hla⟩ := hs
  refine closeBlock_ends ⟨by simp, hhost, hcount⟩ fun kind z w hw => ?_
  obtain ⟨hwf, hbit⟩ := emitBlock_sound ⟨hser, hcount.2⟩ hw
  exact ⟨⟨hhost, rfl, hfc, hem, ⟨hcount.1, hbit⟩, hwf, hck, hconsumed, hla⟩,
    ⟨le_rfl, Nat.sub_self _, qcap_pos hhost.1, by simp, rfl, rfl, rfl⟩⟩

theorem tally_midStep {s : State} (hs : s.MidStep) (hcan : s.canFind = true) :
    Ends TrapKeeps State.MidStep (tally (find s) (advance (find s) s)) := by
  obtain ⟨stream, block⟩ := hs
  have hrec := record_advance_streamInv stream (find_span_le hcan)
  exact tally_ends (fun _ => closeBlock_midStep hrec) fun hroom =>
    ⟨hrec, record_advance_blockInv stream.host.1 (find_legal s) block hroom⟩

/-- `PROGRESS` and `FLAGS` are no part of it. -/
theorem midStep_of_flags {s : State} (hs : s.MidStep) (fl : BitVec 2) (b : Bool) :
    State.MidStep { s with flags := fl, progress := b } := by
  obtain ⟨⟨hhost, hp, hfc, hem, hcount, hser, hck, hconsumed, hla⟩, ⟨hstart, hlen, hroom, hentries, hl, hd, hbl⟩⟩ := hs
  exact ⟨⟨hhost, hp, hfc, hem, hcount, hser, hck, hconsumed, hla⟩, ⟨hstart, hlen, hroom, hentries, hl, hd, hbl⟩⟩

theorem midStep_kept : KeptInStep TrapKeeps State.MidStep where
  fill _ hs _ := fill_ends fun _ ht => fill_midStep hs ht
  tally _ hs hcan := tally_midStep hs hcan
  close _ _ hs := closeBlock_midStep hs.1
  progress s hs := midStep_of_flags hs s.flags true

/-! ### The invariant between commands -/

/-- The pending actions, the host's registers and memory, the input range, `FLAGS`, `PROGRESS` and the response may
change as they like, but that memory stays canonical. -/
theorem State.Inv.of_unread {s : State} (hs : s.Inv) {script : List HostAction} {ibuf : Memory}
    {busData ibufSize argOff argLen inOff inLen rval : Word} {flags : BitVec 2} {progress rerr : Bool}
    (hibuf : Memory.wf ibuf) :
    State.Inv { s with
      script := script, ibuf := ibuf, busData := busData, ibufSize := ibufSize, argOff := argOff, argLen := argLen
      inOff := inOff, inLen := inLen, flags := flags, progress := progress, rerr := rerr, rval := rval } :=
  ⟨⟨hs.host.1, hibuf⟩, hs.control, hs.counters, hs.ser, hs.checksum, hs.position, hs.tally⟩

theorem State.Inv.respondOk {s : State} (hs : s.Inv) (v : Word) : (Machine.respondOk v s).Inv := hs.of_unread hs.host.2

/-- In `FAULT` the invariant asks for the fault code, the host's side and the counters only. -/
theorem raiseFault_inv {s : State} {code : FCode} {info : Word} (hcode : code ≠ .none) (hhost : s.hostInv)
    (hcount : s.counterInv) (hem : s.emission = []) : (raiseFault code info s).Inv where
  host := hhost
  control := ⟨.inr (.inr rfl), by simpa using hcode, hem⟩
  counters := hcount
  ser h := absurd rfl h
  checksum h := absurd rfl h
  position h := absurd rfl h
  tally h := absurd rfl h

theorem raiseInternalFault_inv {s : State} {code : FCode} {info : Word} (h : TrapKeeps code s) :
    (raiseInternalFault code info s).Inv := by
  obtain ⟨hcode, hhost, hcount⟩ := h
  exact raiseFault_inv hcode hhost ⟨by simpa using hcount.1, by simpa using hcount.2⟩ rfl

theorem resetSerializer_wf : Serializer.reset.wf := by decide

theorem powerOnReset_midStep {s : State} (h : s.hostInv) : (powerOnReset s).MidStep where
  left :=
    { host := h, phase := rfl, fcode := rfl, emission := rfl, counters := ⟨Nat.two_pow_pos 61, Nat.two_pow_pos 64⟩
      ser := resetSerializer_wf, checksum := rfl, consumed := le_rfl, lookahead := Nat.zero_le _ }
  right :=
    { start := le_rfl, length := rfl, room := qcap_pos h.1, entries := fun _ he => nomatch he
      lfreq := rfl, dfreq := rfl, blfreq := rfl }

theorem powerOnReset_inv {s : State} (h : s.hostInv) : (powerOnReset s).Inv :=
  ((midStep_iff _).1 (powerOnReset_midStep h)).1

theorem commandReset_inv {s : State} (h : s.hostInv) : (commandReset s).Inv := (powerOnReset_inv h).of_unread h.2

/-- FINISH pads the open stream to a byte and closes the run (44_host_commands.md R205 lines 13 and 14). -/
theorem done_inv {s : State} {ser : Serializer} (hs : s.MidStep) (h : align s.ser = .ok ser) :
    State.Inv { s with ser := ser, phase := .done, progress := true } := by
  obtain ⟨hinv, hp⟩ := (midStep_iff s).1 hs
  obtain ⟨stream, block⟩ := hs
  obtain ⟨hwf, hbit⟩ := align_sound ⟨stream.ser, stream.counters.2⟩ h
  have hf : s.phase ≠ .fault := by simp [hp]
  exact { host := stream.host
          control := ⟨.inr (.inl rfl), by simp [stream.fcode], stream.emission⟩
          counters := ⟨stream.counters.1, hbit⟩
          ser := fun _ => ⟨hwf, fun _ => align_nb h⟩
          checksum := fun _ => stream.checksum
          position := fun _ => hinv.position hf
          tally := fun _ => hinv.tally hf }

/-- STEP keeps the invariant in every phase it runs in, and so does the internal fault it may take. -/
theorem step_command_inv {fl : BitVec 2} {s t : State} (hs : s.Inv) (hfault : s.phase ≠ .fault)
    (h : finish (runStep fl (s.beginStep fl)) = .next t) : t.Inv := by
  have hend : Ends TrapKeeps State.Inv (runStep fl (s.beginStep fl)) := by
    rcases hs.control.1 with hp | hp | hp
    · have hmid : (s.beginStep fl).MidStep := midStep_of_flags ((midStep_iff s).2 ⟨hs, hp⟩) fl false
      exact midStep_kept.runStep_ends hmid (by simp [hp]) (fun u hu => ((midStep_iff u).1 hu).1)
        (fun u ser _ hu hser => done_inv hu hser) fun v u hu => hu.respondOk v
    · rw [runStep, beginStep_phase, if_pos hp]
      exact hs.of_unread hs.host.2
    · exact absurd hp hfault
  rcases ends_finish hend h with ht | ⟨code, info, u, hu, rfl⟩
  · exact ht
  · exact raiseInternalFault_inv hu

theorem exec_decodeCmd_inv {w : Word} {s t : State} (hs : s.Inv) (h : exec (decodeCmd w) s = .next t) : t.Inv := by
  rcases exec_decodeCmd_next h with
    ⟨-, rfl⟩ | ⟨-, rfl⟩ | ⟨hp, ⟨code, info, hcode, rfl⟩ | rfl | ⟨v, rfl⟩ | ⟨fl, -, hrun⟩⟩
  · exact (commandReset_inv hs.host).respondOk 0
  · exact hs.of_unread hs.host.2
  · obtain ⟨-, -, hem⟩ := hs.control
    exact raiseFault_inv hcode hs.host hs.counters hem
  · exact hs.of_unread hs.host.2
  · exact hs.respondOk v
  · exact step_command_inv hs hp hrun

theorem writeReg_inv {s : State} (hs : s.Inv) (off : Nat) (v : Word) : (s.writeReg off v).Inv := by
  unfold State.writeReg
  split <;> exact hs.of_unread hs.host.2

theorem perform_inv {a : HostAction} {s t : State} (hs : s.Inv) (h : perform a s = .next t) : t.Inv := by
  rcases perform_next h with ⟨off, bytes, v, -, -, hw⟩ | ⟨off, bytes, -, -, rfl⟩ | ⟨x, b, -, rfl⟩ | ⟨-, rfl⟩
  · unfold busWrite at hw
    split at hw
    · exact exec_decodeCmd_inv hs hw
    · exact Host.Outcome.next.inj hw ▸ writeReg_inv hs off.toNat v
  · exact hs.of_unread hs.host.2
  · exact hs.of_unread (Memory.write_wf x.isLt hs.host.2)
  · exact powerOnReset_inv hs.host

/-- Settles O55: between commands a step waits or performs one action of the host, and each kind of action keeps the
invariant; for a STEP command it is carried through the micro-operations as `State.MidStep`. -/
theorem everyStepKeepsTheInvariant : Obligations.EveryStepKeepsTheInvariant := by
  unfold Obligations.EveryStepKeepsTheInvariant
  intro s t hs h
  rcases step_next h with ⟨hp, -⟩ | ⟨-, ⟨-, rfl⟩ | ⟨a, rest, -, ha⟩⟩
  · have := hs.control.1
    simp [hp] at this
  · exact hs
  · exact perform_inv (hs.of_unread hs.host.2) ha

/-- Settles O54: power-on reset under legal parameters meets the invariant, and the state after power-on is that of the
default ones. -/
theorem resetMeetsTheInvariant : Obligations.ResetMeetsTheInvariant := by
  unfold Obligations.ResetMeetsTheInvariant
  exact powerOnReset_inv (s := State.reset) ⟨by decide, Memory.reset_wf⟩

/-! ### The sums of the tables (10_state.md R40 (b)) -/

theorem total_eq_sum (l : List Nat) : total l = l.sum := List.sum_eq_foldl.symm

/-- Counting one more symbol adds 1 to the sum of the table, as long as no counter can wrap. -/
theorem total_counts_bump {t : List Word} {i : Nat} (hi : i < t.length) (hbound : total (counts t) + 1 < 2 ^ 32) :
    total (counts (bump t i)) = total (counts t) + 1 := by
  rw [total_eq_sum] at *
  rw [total_eq_sum]
  induction t generalizing i with
  | nil => simp at hi
  | cons w t ih =>
    simp only [counts, List.map_cons, List.sum_cons] at hbound
    cases i with
    | zero =>
      have hw : (w + 1).toNat = w.toNat + 1 := BitVec.toNat_add_of_lt (by simpa using by omega)
      simp only [bump, counts, List.modify_zero_cons, List.map_cons, List.sum_cons, hw]
      omega
    | succ i =>
      have := ih (i := i) (by simpa using hi) (by simp only [counts]; omega)
      simp only [bump, counts, List.modify_succ_cons, List.map_cons, List.sum_cons] at *
      omega

@[simp] theorem bump_length (t : List Word) (i : Nat) : (bump t i).length = t.length := by simp [bump]

theorem largestAtMost_lt {bases : List Nat} (x : Nat) (h : bases ≠ []) : largestAtMost bases x < bases.length := by
  have hle := (List.takeWhile_prefix (fun b => decide (b ≤ x)) (l := bases)).length_le
  have hpos := List.length_pos_iff.2 h
  unfold largestAtMost
  omega

theorem lenCode_le (l : Nat) : lenCode l ≤ 28 := by
  unfold lenCode
  split
  · exact le_rfl
  · exact (largestAtMost_lt (bases := lBase.take 28) l (by decide)).le

theorem distCode_lt (d : Nat) : distCode d < Config.dCodes := largestAtMost_lt (bases := dBase) d (by decide)

/-- No token has the end-of-block symbol, and each has a place in `LFREQ`. -/
theorem litSymbol_bound (k : Token) : k.litSymbol < 286 ∧ k.litSymbol ≠ 256 := by
  cases k with
  | lit b =>
    have hb := b.isLt
    simp only [Token.litSymbol]
    omega
  | ref d l =>
    have hl := lenCode_le l
    simp only [Token.litSymbol]
    omega

theorem total_counts_replicate (n : Nat) : total (counts (List.replicate n 0)) = 0 := by
  simp [total_eq_sum, counts]

theorem talliedLit_length (q : List QEntry) : (talliedLit q).length = 286 := by
  induction q using List.reverseRecOn with
  | nil => exact List.length_replicate
  | append_singleton q e ih => rw [talliedLit_append, bump_length, ih]

theorem tallyDistance_length (t : List Word) (k : Token) : (tallyDistance t k).length = t.length := by
  cases k with
  | lit b => rfl
  | ref d l => exact bump_length t _

theorem talliedDist_length (q : List QEntry) : (talliedDist q).length = Config.dCodes := by
  induction q using List.reverseRecOn with
  | nil => exact List.length_replicate
  | append_singleton q e ih => rw [talliedDist_append, tallyDistance_length, ih]

/-- Each token is counted once in `LFREQ`. -/
theorem total_talliedLit {q : List QEntry} (hq : q.length < 2 ^ 32) : total (counts (talliedLit q)) = q.length := by
  induction q using List.reverseRecOn with
  | nil => exact total_counts_replicate _
  | append_singleton q e ih =>
    rw [List.length_append, List.length_singleton] at hq
    have ih := ih (by omega)
    have hsym : e.token.litSymbol < (talliedLit q).length := talliedLit_length q ▸ (litSymbol_bound e.token).1
    rw [talliedLit_append, total_counts_bump hsym (by omega), ih, List.length_append, List.length_singleton]

/-- The end-of-block marker is counted by CLOSE_BLOCK only (42_block_coordinator.md R161). -/
theorem talliedLit_eob (q : List QEntry) : (talliedLit q).getD 256 0 = 0 := by
  induction q using List.reverseRecOn with
  | nil => rfl
  | append_singleton q e ih =>
    have hsym := (litSymbol_bound e.token).2
    have hkeep : (bump (talliedLit q) e.token.litSymbol)[256]? = (talliedLit q)[256]? := by
      simp [bump, hsym]
    rw [talliedLit_append, List.getD_eq_getElem?_getD, hkeep, ← List.getD_eq_getElem?_getD, ih]

/-- Each match is counted once in `DFREQ`, a literal not at all. -/
theorem total_talliedDist {q : List QEntry} (hq : q.length < 2 ^ 32) :
    total (counts (talliedDist q)) = (q.filter fun e => decide (e.d ≠ 0)).length := by
  induction q using List.reverseRecOn with
  | nil => exact total_counts_replicate _
  | append_singleton q e ih =>
    rw [List.length_append, List.length_singleton] at hq
    have ih := ih (by omega)
    have hle := List.length_filter_le (fun e => decide (e.d ≠ 0)) q
    rw [talliedDist_append, List.filter_append, List.length_append, ← ih]
    by_cases he : e.d = 0
    · simp [QEntry.token, he, tallyDistance, Token.distSymbol]
    · have hsym : distCode e.d.toNat < (talliedDist q).length := talliedDist_length q ▸ distCode_lt _
      have hone : (List.filter (fun e : QEntry => decide (e.d ≠ 0)) [e]).length = 1 := by
        rw [List.filter_cons_of_pos (by simpa using he)]
        rfl
      rw [QEntry.token, if_neg he, hone]
      exact total_counts_bump hsym (by omega)

/-- Settles O22: the tables are the tallies of the queue, which is too short for a 32-bit counter to wrap. -/
theorem tablesCountTheQueue : Obligations.TablesCountTheQueue := by
  unfold Obligations.TablesCountTheQueue
  intro s hs hp
  obtain ⟨hroom, -, hl, hd, -⟩ := hs.tally hp
  obtain ⟨-, ⟨-, hcap⟩, -⟩ := hs.host.1
  have hq : s.q.length < 2 ^ 32 := by omega
  rw [hl, hd]
  exact ⟨total_talliedLit hq, talliedLit_eob s.q, total_talliedDist hq⟩

/-! ### The phases (10_state.md R21) -/

/-- CLOSE_BLOCK returns to `ACCUMULATING`, so every micro-operation of STEP stays in it. -/
theorem accumulating_kept : KeptInStep (fun _ _ => True) fun s => s.phase = .accumulating where
  fill _ hs _ := fill_ends fun _ ht => by
    obtain ⟨-, rfl⟩ := fill_eq_ok ht
    exact hs
  tally _ hs _ := tally_ends (fun _ => closeBlock_ends trivial fun _ _ _ _ => rfl) fun _ => by simpa using hs
  close _ _ _ := closeBlock_ends trivial fun _ _ _ _ => rfl
  progress _ hs := hs

/-- The phases a STEP may end in: the one it found, `FAULT`, or with FINISH `DONE`. -/
theorem step_command_phase {fl : BitVec 2} {s t : State} (hp : s.phase = .accumulating ∨ s.phase = .done)
    (h : finish (runStep fl (s.beginStep fl)) = .next t) :
    t.phase = s.phase ∨ t.phase = .fault ∨ (s.phase = .accumulating ∧ t.phase = .done ∧ finishFlag fl = true) := by
  have hend : Ends (fun _ _ => True)
      (fun u => u.phase = s.phase ∨ (s.phase = .accumulating ∧ u.phase = .done ∧ finishFlag fl = true))
      (runStep fl (s.beginStep fl)) := by
    rcases hp with hp | hp
    · exact accumulating_kept.runStep_ends (s := s.beginStep fl) hp (by simp [hp]) (fun u hu => .inl (hu.trans hp.symm))
        (fun u ser hfin _ _ => .inr ⟨hp, rfl, hfin⟩) fun _ _ hu => hu
    · rw [runStep, beginStep_phase, if_pos hp]
      exact .inl rfl
  rcases ends_finish hend h with (ht | ht) | ⟨code, info, u, -, rfl⟩
  · exact .inl ht
  · exact .inr (.inr ht)
  · exact .inr (.inl rfl)

theorem flags_of_finish : ∀ fl : BitVec 2, finishFlag fl = true → fl = 2 ∨ fl = 3 := by decide

/-- The STEP words with FINISH (30_encoding.md R83). -/
theorem step_word_of_finish {w : Word} {fl : BitVec 2} (hw : w.toNat = 3 + 16 * fl.toNat)
    (hfin : finishFlag fl = true) : w = 0x23 ∨ w = 0x33 := by
  rcases flags_of_finish fl hfin with rfl | rfl
  · exact .inl (BitVec.eq_of_toNat_eq hw)
  · exact .inr (BitVec.eq_of_toNat_eq hw)

@[simp] theorem writeReg_phase (s : State) (off : Nat) (v : Word) : (s.writeReg off v).phase = s.phase := by
  unfold State.writeReg
  split <;> rfl

theorem alignedWord_iff (off : Word) (bytes : Nat) :
    alignedWord off bytes = true ↔ bytes = 4 ∧ off.toNat % 4 = 0 := by
  simp [alignedWord]

/-- The phases the write of a word to `CMD` may lead to. -/
theorem exec_decodeCmd_phase {w : Word} {s t : State} (hs : s.controlInv) (h : exec (decodeCmd w) s = .next t) :
    t.phase = s.phase ∨ t.phase = .fault ∨ (w = 0 ∧ t.phase = .accumulating) ∨
    (s.phase = .accumulating ∧ t.phase = .done ∧ (w = 0x23 ∨ w = 0x33)) := by
  rcases exec_decodeCmd_next h with
    ⟨hw, rfl⟩ | ⟨-, rfl⟩ | ⟨hp, ⟨code, info, -, rfl⟩ | rfl | ⟨v, rfl⟩ | ⟨fl, hw, hrun⟩⟩
  · exact .inr (.inr (.inl ⟨hw, rfl⟩))
  · exact .inl rfl
  · exact .inr (.inl rfl)
  · exact .inl rfl
  · exact .inl rfl
  · have hopen : s.phase = .accumulating ∨ s.phase = .done := by simpa [hp] using hs.1
    rcases step_command_phase hopen hrun with ht | ht | ⟨hacc, ht, hfin⟩
    · exact .inl ht
    · exact .inr (.inl ht)
    · exact .inr (.inr (.inr ⟨hacc, ht, step_word_of_finish hw hfin⟩))

/-- Settles O59: but for power-on only a command word changes the phase, and `exec_decodeCmd_phase` says how. -/
theorem phaseTransitionsAreThoseAllowed : Obligations.PhaseTransitionsAreThoseAllowed := by
  unfold Obligations.PhaseTransitionsAreThoseAllowed
  intro s t a rest hs hscript h
  rcases step_next h with ⟨hp, -⟩ | ⟨-, ⟨hnil, -⟩ | ⟨a', rest', hscript', ha⟩⟩
  · simpa [hp] using hs.1
  · simp [hnil] at hscript
  · obtain ⟨rfl, rfl⟩ := List.cons.inj (hscript.symm.trans hscript')
    rcases perform_next ha with
      ⟨off, bytes, v, rfl, hal, hw⟩ | ⟨off, bytes, rfl, -, rfl⟩ | ⟨x, b, rfl, rfl⟩ | ⟨rfl, rfl⟩
    · obtain ⟨rfl, -⟩ := (alignedWord_iff off bytes).1 hal
      unfold busWrite at hw
      split at hw
      · next hoff =>
        subst hoff
        rcases exec_decodeCmd_phase (s := { s with script := rest }) hs hw with ht | ht | ⟨rfl, ht⟩ | ⟨hacc, ht, hv⟩
        · exact .inl ht
        · exact .inr (.inl ht)
        · exact .inr (.inr (.inl ⟨rfl, ht⟩))
        · exact .inr (.inr (.inr ⟨hacc, ht, by simpa using hv⟩))
      · exact .inl (Host.Outcome.next.inj hw ▸ writeReg_phase _ _ v)
    · exact .inl rfl
    · exact .inl rfl
    · exact .inr (.inr (.inl ⟨rfl, rfl⟩))

/-! ### Power-on (10_state.md R39) -/

/-- Settles O1: power-on is `powerOnReset`, and `State.reset` is the reset table's column. -/
theorem powerOnResetValues : Obligations.PowerOnResetValues := by
  unfold Obligations.PowerOnResetValues
  refine ⟨fun s => rfl, ?_⟩
  and_intros <;> rfl

/-! ### The register window (10_state.md R38) -/

theorem perform_badAccess {off : Word} {n : Nat} (h : n ≠ 4 ∨ off.toNat % 4 ≠ 0) (v : Word) (s : State) :
    perform (.write off n v) s = .refused .badAccess ∧ perform (.read off n) s = .refused .badAccess := by
  have hal : alignedWord off n = false := by
    rw [Bool.eq_false_iff, ne_eq, alignedWord_iff]
    omega
  simp [perform, hal]

theorem perform_read {off : Word} (h : off.toNat % 4 = 0) (s : State) :
    perform (.read off 4) s = .next { s with busData := s.readReg off.toNat } := by
  rw [perform, if_pos ((alignedWord_iff off 4).2 ⟨rfl, h⟩)]

/-- A write outside `CMD` goes to the register. -/
theorem perform_write {off : Word} (h : off.toNat % 4 = 0) (hcmd : off ≠ 0) (v : Word) (s : State) :
    perform (.write off 4 v) s = .next (s.writeReg off.toNat v) := by
  rw [perform, if_pos ((alignedWord_iff off 4).2 ⟨rfl, h⟩), busWrite, if_neg hcmd]

/-- Every register but the three operand registers ignores a write. -/
theorem writeReg_other {off : Nat} (h₁ : off ≠ 0x0C) (h₂ : off ≠ 0x10) (h₃ : off ≠ 0x14) (s : State) (v : Word) :
    s.writeReg off v = s := by
  unfold State.writeReg
  split
  · exact absurd rfl h₁
  · exact absurd rfl h₂
  · exact absurd rfl h₃
  · rfl

/-- `CMD` and the reserved offsets read as 0. -/
theorem readReg_reserved {off : Nat} (h : off = 0 ∨ off = 0x1C ∨ 0x30 ≤ off) (s : State) : s.readReg off = 0 := by
  unfold State.readReg
  split
  case h_11 => rfl
  all_goals omega

/-- The fields of `RSTAT`. -/
theorem rstat_fields (s : State) :
    s.rstat.getLsbD 0 = s.rerr ∧ s.rstat.toNat / 2 % 8 = 0 ∧ s.rstat.toNat / 16 % 16 = s.fcode.code ∧
    s.rstat.toNat / 256 % 8 = s.phase.code ∧ s.rstat.toNat / 2048 = 0 := by
  have herr := Bool.toNat_le s.rerr
  have hcode : s.fcode.code ≤ 6 := by cases s.fcode <;> decide
  have hphase : s.phase.code ≤ 4 := by cases s.phase <;> decide
  have hval : s.rstat.toNat = s.rerr.toNat + 16 * s.fcode.code + 256 * s.phase.code := by
    simp only [State.rstat, BitVec.toNat_ofNat]
    omega
  refine ⟨?_, by omega, by omega, by omega, by omega⟩
  have hbit : s.rstat.toNat % 2 = s.rerr.toNat := by omega
  rw [BitVec.getLsbD, Nat.testBit_zero, hbit]
  cases s.rerr <;> rfl

theorem fcodeNumber_eq_code (c : FCode) : Claims.fcodeNumber c = c.code := by cases c <;> rfl

theorem phaseNumber_eq_code (p : Phase) : Claims.phaseNumber p = p.code := by cases p <;> rfl

/-- Settles O53: the accesses by `perform_badAccess`, `perform_write` and `perform_read`, then each register. -/
theorem registerWindowBehaves : Obligations.RegisterWindowBehaves := by
  unfold Obligations.RegisterWindowBehaves
  intro s off v n
  refine ⟨fun h => perform_badAccess h v s, fun hal => ⟨?_, ?_, ?_, ?_, _, perform_read hal s, ?_⟩⟩
  · rintro rfl
    exact perform_write hal (by decide) v s
  · rintro rfl
    exact perform_write hal (by decide) v s
  · rintro rfl
    exact perform_write hal (by decide) v s
  · intro hcmd h₁ h₂ h₃
    have offset {k : Word} (hk : off ≠ k) : off.toNat ≠ k.toNat := fun h => hk (BitVec.eq_of_toNat_eq h)
    rw [perform_write hal hcmd, writeReg_other (offset h₁) (offset h₂) (offset h₃)]
  · refine ⟨?_, ?_, ?_, ?_, ?_, ?_, ?_, ?_, ?_, ?_, fun h => ?_⟩
    case refine_1 =>
      rintro rfl
      rw [fcodeNumber_eq_code, phaseNumber_eq_code]
      exact rstat_fields s
    case refine_11 => exact readReg_reserved (h.imp (congrArg BitVec.toNat) (.imp_left (congrArg BitVec.toNat))) s
    all_goals
      rintro rfl
      rfl

end Sys2Proof.Machine

/-! PROOFS of the family 20_memory.md: the canonical form of host memory (R60, R61), the next action and the next
element of an emission (R68), what an instruction of each kind does, the host's side (R62), the append-only stream
(R63). -/

namespace Sys2Proof.Machine

/-! ### Host memory (20_memory.md R60, R61) -/

theorem Memory.wf_cons {c : Host.Cell} {m : Memory} (h : Memory.wf (c :: m)) :
    c.2 ≠ Memory.unwritten ∧ (∀ x ∈ m, c.1 < x.1) ∧ m.wf := by
  obtain ⟨hrise, hcells⟩ := h
  obtain ⟨hhead, htail⟩ := List.pairwise_cons.1 hrise
  obtain ⟨hc, -⟩ := hcells c (by simp)
  exact ⟨hc, hhead, htail, fun x hx => hcells x (by simp [hx])⟩

@[simp] theorem Memory.read_head (c : Host.Cell) (m : Memory) : Memory.read (c :: m) c.1 = c.2 := if_pos rfl

/-- What the first cell holds must be listed in a memory that reads alike, so that one begins no later. -/
theorem Memory.head_le_of_read_eq {c d : Host.Cell} {m n : Memory} (hc : c.2 ≠ Memory.unwritten)
    (hd : ∀ x ∈ n, d.1 < x.1) (h : Memory.read (c :: m) c.1 = Memory.read (d :: n) c.1) : d.1 ≤ c.1 := by
  by_contra hlt
  refine hc ?_
  rw [← Memory.read_head c m, h]
  refine Memory.read_below _ _ fun x hx => ?_
  rcases List.mem_cons.1 hx with rfl | hx
  · omega
  · have := hd x hx
    omega

/-- Memories in canonical form are equal where they read alike. -/
theorem Memory.eq_of_read_eq {m n : Memory} (hm : m.wf) (hn : n.wf) (h : ∀ a, m.read a = n.read a) : m = n := by
  induction m generalizing n with
  | nil =>
    cases n with
    | nil => rfl
    | cons d n => exact absurd (by simpa using (h d.1).symm) (Memory.wf_cons hn).1
  | cons c m ih =>
    obtain ⟨hc, hcm, hm⟩ := Memory.wf_cons hm
    cases n with
    | nil => exact absurd (by simpa using h c.1) hc
    | cons d n =>
      obtain ⟨hd, hdn, hn⟩ := Memory.wf_cons hn
      have hoff : c.1 = d.1 :=
        le_antisymm (Memory.head_le_of_read_eq hd hcm (h d.1).symm) (Memory.head_le_of_read_eq hc hdn (h c.1))
      have hbyte : c.2 = d.2 := by
        have := h c.1
        rwa [Memory.read_head, hoff, Memory.read_head] at this
      have htail : m = n := ih hm hn fun a => by
        by_cases ha : c.1 = a
        · rw [Memory.read_below m a fun x hx => ha ▸ hcm x hx,
            Memory.read_below n a fun x hx => ha ▸ hoff ▸ hdn x hx]
        · have := h a
          rwa [Memory.read_cons, if_neg ha, Memory.read_cons, if_neg (hoff ▸ ha)] at this
      rw [htail, Prod.ext hoff hbyte]

/-- Settles O60: `Memory.read_write` and `Memory.write_wf` for the store, `Memory.eq_of_read_eq` for the form. -/
theorem memoryFormIsCanonical : Obligations.MemoryFormIsCanonical := by
  unfold Obligations.MemoryFormIsCanonical
  refine ⟨fun s a b hs => ⟨_, rfl, Memory.write_wf a.isLt hs, ?_, fun a' ha => ?_⟩, fun m n => Memory.eq_of_read_eq⟩
  · rw [State.memRead, Memory.read_write _ _ _ _ hs.1, if_pos rfl]
  · have hne : a.toNat ≠ a'.toNat := fun h => ha (BitVec.eq_of_toNat_eq h.symm)
    rw [State.memRead, Memory.read_write _ _ _ _ hs.1, if_neg hne, State.memRead]

/-! ### The next action and the next element (20_memory.md R68, 42_block_coordinator.md R160) -/

theorem performNext_nil {s : State} (h : s.script = []) : performNext s = .next s := by
  simp only [performNext, h]

theorem performNext_cons {s : State} {a : HostAction} {rest : List HostAction} (h : s.script = a :: rest) :
    performNext s = perform a { s with script := rest } := by
  simp only [performNext, h]

/-- After its last element the block is reset (42_block_coordinator.md R176). -/
theorem emitNext_nil {s : State} (h : s.emission = []) :
    emitNext s = .next { s.clearedBlock with phase := .accumulating } := by
  simp only [emitNext, h, resetBlock_eq, finish_ok]

theorem emitNext_cons {s : State} {fmt : Format} {w : Word} {rest : List (Format × Word)}
    (h : s.emission = (fmt, w) :: rest) : emitNext s = runWord fmt w { s with emission := rest } := by
  simp only [emitNext, h]

/-- A write of a word to `CMD` runs the command it decodes to. -/
theorem perform_command (w : Word) (s : State) : perform (.write 0 4 w) s = exec (decodeCmd w) s := rfl

theorem runWord_of_decode {fmt : Format} {w : Word} {i : Instr} (hf : fmt ≠ .cmdw) (hd : decode fmt w = .ok i)
    (s : State) : runWord fmt w s = exec i s := by
  rw [runWord, if_neg hf, hd]

/-- Settles O51: outside an emission `performNext`, in it `emitNext`, each by the head of its list. -/
theorem stepRunsTheNextAction : Obligations.StepRunsTheNextAction := by
  unfold Obligations.StepRunsTheNextAction
  refine fun s => ⟨fun hp => ?_, fun hp => ?_⟩
  · rw [step_of_not_emitting hp]
    refine ⟨fun w i rest hscript hd => ?_, performNext_nil⟩
    rw [performNext_cons hscript, perform_command, ← Except.ok.inj hd]
  · rw [step_of_emitting hp]
    refine ⟨fun fmt w i rest hem hf hd => ?_, emitNext_nil⟩
    rw [emitNext_cons hem, runWord_of_decode hf hd]

/-! ### The format of what a word decodes to (30_encoding.md R80, R85 to R88, R93, R94) -/

/-- `i` is an instruction of format `fmt`. -/
def HasFormat (fmt : Format) (i : Instr) : Prop := (encode i).1 = fmt

/-- Where the decoder gives an instruction, `P` holds of it. -/
def Decodes (P : Instr → Prop) (r : Except DecodeError Instr) : Prop := ∀ i, r = .ok i → P i

section Decodes
variable {P : Instr → Prop}

@[simp] theorem decodes_ok (i : Instr) : Decodes P (.ok i) ↔ P i := by simp [Decodes]

@[simp] theorem decodes_error (e : DecodeError) : Decodes P (.error e) := fun _ h => nomatch h

@[simp] theorem decodes_ite (c : Prop) [Decidable c] (r r' : Except DecodeError Instr) :
    Decodes P (if c then r else r') ↔ (c → Decodes P r) ∧ (¬ c → Decodes P r') := by
  split <;> simp_all

end Decodes

theorem decodeCmd_format (w : Word) : (encode (decodeCmd w)).1 = .cmdw := by
  rcases decodeCmd_cases w with ⟨hd, -⟩ | hd | hd | hd | hd | ⟨fl, hd, -⟩ <;> rw [hd] <;> rfl

theorem decodeHeader_format (n : Nat) : Decodes (HasFormat .bhdr) (decodeHeader n) := by
  unfold decodeHeader
  split <;> simp [HasFormat, encode]

theorem decodeLen_format (c ev : Nat) : Decodes (HasFormat .llsym) (decodeLen c ev) := by
  unfold decodeLen
  split <;> simp [noExtra, withExtra, HasFormat, encode]

theorem decodeLitLen_format (n : Nat) : Decodes (HasFormat .llsym) (decodeLitLen n) := by
  simp [decodeLitLen, noExtra, decodeLen_format, HasFormat, encode]

theorem decodeDistRow_format (c ev : Nat) : Decodes (HasFormat .dsym) (decodeDistRow c ev) := by
  unfold decodeDistRow
  split <;> simp [noExtra, withExtra, HasFormat, encode]

theorem decodeDist_format (n : Nat) : Decodes (HasFormat .dsym) (decodeDist n) := by
  simp [decodeDist, noExtra, decodeDistRow_format, HasFormat, encode]

theorem decodeCodeLen_format (c ev : Nat) : Decodes (HasFormat .clsym) (decodeCodeLen c ev) := by
  unfold decodeCodeLen
  split <;> simp [noExtra, withExtra, HasFormat, encode]

theorem decodeStatic_format (bits n : Nat) :
    Decodes (HasFormat (.static bits)) (decodeStatic bits n) := by
  unfold decodeStatic
  split <;> simp [HasFormat, encode]

/-- A word of a format decodes to an instruction of that format. -/
theorem decode_format {fmt : Format} {w : Word} {i : Instr} (h : decode fmt w = .ok i) : (encode i).1 = fmt := by
  cases fmt with
  | cmdw => exact Except.ok.inj h ▸ decodeCmd_format w
  | bhdr => exact decodeHeader_format _ i h
  | llsym => exact decodeLitLen_format _ i h
  | dsym => exact decodeDist_format _ i h
  | clsym => exact decodeCodeLen_format _ _ i h
  | static bits => exact decodeStatic_format bits _ i h

/-! ### The serializer only appends (20_memory.md R63) -/

/-- `w` is `z` after more bits: the bytes in `OUT` stay and `BITPOS` does not fall. -/
def Serializer.Extends (z w : Serializer) : Prop := (∃ bs, w.out = z.out ++ bs) ∧ z.bitpos ≤ w.bitpos

theorem Serializer.Extends.refl (z : Serializer) : z.Extends z := ⟨⟨[], (List.append_nil _).symm⟩, le_rfl⟩

theorem Serializer.Extends.trans {x y z : Serializer} (hxy : x.Extends y) (hyz : y.Extends z) : x.Extends z := by
  obtain ⟨⟨bs, hy⟩, hxy⟩ := hxy
  obtain ⟨⟨cs, hz⟩, hyz⟩ := hyz
  exact ⟨⟨bs ++ cs, by rw [hz, hy, List.append_assoc]⟩, hxy.trans hyz⟩

theorem putBits_extends {f : BitField} {z w : Serializer} (h : putBits f z = .ok w) : z.Extends w := by
  obtain ⟨-, -, rfl⟩ := putBits_eq_ok h
  exact ⟨push_out z f, Nat.le_add_right ..⟩

theorem putFields_extends {fs : List BitField} {z w : Serializer} (h : putFields fs z = .ok w) : z.Extends w := by
  induction fs generalizing z with
  | nil => cases h; exact .refl _
  | cons f fs ih =>
    obtain ⟨y, hy, hrest⟩ := serThen_ok h
    exact (putBits_extends hy).trans (ih hrest)

theorem align_extends {z w : Serializer} (h : align z = .ok w) : z.Extends w := by
  unfold align at h
  split at h
  · cases h; exact .refl _
  · exact putBits_extends h

theorem putBytes_extends {bs : List Byte} {z w : Serializer} (h : putBytes bs z = .ok w) : z.Extends w := by
  unfold putBytes at h
  split at h
  · split at h
    · cases h
      exact ⟨⟨bs, rfl⟩, Nat.le_add_right ..⟩
    · cases h
  · cases h

theorem emitStored_extends {final : Bool} {s : State} {w : Serializer} (h : emitStored final s = .ok w) :
    s.ser.Extends w := by
  obtain ⟨header, hheader, h⟩ := serThen_ok h
  obtain ⟨padded, hpadded, h⟩ := serThen_ok h
  obtain ⟨sized, hsized, h⟩ := serThen_ok h
  exact ((putBits_extends hheader).trans (align_extends hpadded)).trans
    ((putFields_extends hsized).trans (putBytes_extends h))

/-- Line 12 of CLOSE_BLOCK appends, in each encoding (42_block_coordinator.md R170 to R172). -/
theorem emitBlock_extends {kind : BlockKind} {final : Bool} {z : Sizing} {s : State} {w : Serializer}
    (h : emitBlock kind final z s = .ok w) : s.ser.Extends w := by
  cases kind with
  | stored => exact emitStored_extends h
  | fixed => exact putFields_extends h
  | dynamic => exact putFields_extends h

/-! ### What an instruction of each kind does -/

/-- The meanings the rows of the output formats have: sending fields, a symbol of the block's codes, a code-length
symbol or a whole block, or for the reserved rows the refusal (43_bit_serializer.md R194, 30_encoding.md R91). -/
inductive RowMeaning (s : State) : Host.Outcome State Fault Refusal → Prop
  | fields (fs : List BitField) : RowMeaning s (sendFields fs s)
  | symbol (fs : BlockCodes → List BitField) : RowMeaning s (sendSymbol fs s)
  | codeLength (c : ClSym) : RowMeaning s (sendCodeLength c s)
  | stored (final : Bool) : RowMeaning s (sendFrom (emitStored final) s)
  | fixed (final : Bool) : RowMeaning s (sendFrom (emitStatic final) s)
  | dynamic (final : Bool) : RowMeaning s (sendSized (emitDynamic final) s)
  | reserved : RowMeaning s (.refused .reservedOutput)

/-- Every instruction is a command word's or a row of an output format. -/
theorem instr_cases (i : Instr) :
    (∃ w, i = decodeCmd w) ∨ (∃ w, i = .reservedCmd w) ∨ ∀ s, RowMeaning s (exec i s) := by
  unfold exec
  cases i with
  | reset => exact .inl ⟨0, rfl⟩
  | setInput => exact .inl ⟨1, rfl⟩
  | needsInput => exact .inl ⟨2, rfl⟩
  | step fl => exact .inl ⟨.ofNat 32 (3 + 16 * fl.toNat), by decide +revert⟩
  | getChecksum => exact .inl ⟨4, rfl⟩
  | reservedCmd w => exact .inr (.inl ⟨w, rfl⟩)
  | blockStored | blockStoredFinal => exact .inr (.inr fun _ => .stored _)
  | blockStatic | blockStaticFinal => exact .inr (.inr fun _ => .fixed _)
  | blockDynamic | blockDynamicFinal => exact .inr (.inr fun _ => .dynamic _)
  | blockReserved | llReserved | distReserved => exact .inr (.inr fun _ => .reserved)
  | lit | eob | len257 | len258 | len259 | len260 | len261 | len262 | len263 | len264 | len265 | len266 | len267
  | len268 | len269 | len270 | len271 | len272 | len273 | len274 | len275 | len276 | len277 | len278 | len279 | len280
  | len281 | len282 | len283 | len284 | len285 | dist0 | dist1 | dist2 | dist3 | dist4 | dist5 | dist6 | dist7 | dist8
  | dist9 | dist10 | dist11 | dist12 | dist13 | dist14 | dist15 | dist16 | dist17 | dist18 | dist19 | dist20 | dist21
  | dist22 | dist23 | dist24 | dist25 | dist26 | dist27 | dist28 | dist29 => exact .inr (.inr fun _ => .symbol _)
  | cl0 | cl1 | cl2 | cl3 | cl4 | cl5 | cl6 | cl7 | cl8 | cl9 | cl10 | cl11 | cl12 | cl13 | cl14 | cl15 | cl16 | cl17
  | cl18 => exact .inr (.inr fun _ => .codeLength _)
  | staticLl0To143 | staticLl144To255 | staticLl256To279 | staticLl280To287 | staticDist =>
    exact .inr (.inr fun _ => .fields _)

/-- What is decoded from an output format is a row of that format. -/
theorem rowMeaning_of_decode {fmt : Format} {w : Word} {i : Instr} (hf : fmt ≠ .cmdw) (h : decode fmt w = .ok i) :
    ∀ s, RowMeaning s (exec i s) := by
  have hfmt := decode_format h
  rcases instr_cases i with ⟨w, rfl⟩ | ⟨w, rfl⟩ | hrow
  · exact absurd ((decodeCmd_format w).symm.trans hfmt).symm hf
  · exact absurd hfmt.symm hf
  · exact hrow

theorem sendFrom_extends {emit : State → Except Refusal Serializer} {s t : State}
    (hemit : ∀ w, emit s = .ok w → s.ser.Extends w) (h : sendFrom emit s = .next t) :
    ∃ w, s.ser.Extends w ∧ t = { s with ser := w } := by
  rcases sendFrom_next h with ⟨-, w, hw, rfl⟩ | ⟨-, rfl⟩
  · exact ⟨w, hemit w hw, rfl⟩
  · exact ⟨t.ser, .refl _, rfl⟩

theorem sendSized_extends {emit : Sizing → State → Except Refusal Serializer} {s t : State}
    (hemit : ∀ z w, emit z s = .ok w → s.ser.Extends w) (h : sendSized emit s = .next t) :
    (∃ w, s.ser.Extends w ∧ t = { s with ser := w }) ∨ ∃ info, t = raiseInternalFault .limitDiverge info s := by
  rcases sendSized_next h with ⟨-, z, -, w, hw, rfl⟩ | ⟨-, info, -, rfl⟩ | ⟨-, rfl⟩
  · exact .inl ⟨w, hemit z w hw, rfl⟩
  · exact .inr ⟨info, rfl⟩
  · exact .inl ⟨t.ser, .refl _, rfl⟩

/-- An output row appends to the stream and changes nothing else, or takes the internal fault of the sizing
(43_bit_serializer.md R194, 41_huffman_builder.md R151). -/
theorem RowMeaning.next {o : Host.Outcome State Fault Refusal} {s t : State} (ho : RowMeaning s o)
    (h : o = .next t) :
    (∃ w, s.ser.Extends w ∧ t = { s with ser := w }) ∨ ∃ info, t = raiseInternalFault .limitDiverge info s := by
  cases ho with
  | fields fs => exact .inl (sendFrom_extends (fun _ => putFields_extends) h)
  | symbol fs => exact sendSized_extends (fun _ _ => putFields_extends) h
  | codeLength c => exact sendSized_extends (fun _ _ => putFields_extends) h
  | stored final => exact .inl (sendFrom_extends (fun _ => emitStored_extends) h)
  | fixed final => exact .inl (sendFrom_extends (fun _ => putFields_extends) h)
  | dynamic final => exact sendSized_extends (fun _ _ => putFields_extends) h
  | reserved => cases h

/-- What the micro-operations of STEP, the closing of the stream, the response and the internal fault keep, a STEP
command keeps (44_host_commands.md R205). -/
theorem KeptInStep.step_command {P : State → Prop} (kept : KeptInStep (fun _ => P) P)
    (hdone : ∀ u ser, P u → align u.ser = .ok ser → P { u with ser := ser, phase := .done, progress := true })
    (hrespond : ∀ v u, P u → P (respondOk v u)) (hfault : ∀ code info u, P u → P (raiseInternalFault code info u))
    {fl : BitVec 2} {s t : State} (hs : P (s.beginStep fl)) (h : finish (runStep fl (s.beginStep fl)) = .next t) :
    P t := by
  have hend : Ends (fun _ => P) P (runStep fl (s.beginStep fl)) := by
    by_cases hp : (s.beginStep fl).phase = .done
    · rw [runStep, if_pos hp]
      exact hrespond 0 _ hs
    · exact kept.runStep_ends hs hp (fun _ hu => hu) (fun u ser _ => hdone u ser) hrespond
  rcases ends_finish hend h with ht | ⟨code, info, u, hu, rfl⟩
  · exact ht
  · exact hfault code info u hu

/-! ### The host's side (20_memory.md R62, 10_state.md R38) -/

/-- What the core only reads: `IBUF`, the operand registers, the pending actions, the bus and the parameters. -/
def State.hostSide (s : State) : Memory × Word × Word × Word × List HostAction × Word × Params :=
  (s.ibuf, s.ibufSize, s.argOff, s.argLen, s.script, s.busData, s.params)

theorem hostSide_eq_iff (s t : State) : t.hostSide = s.hostSide ↔
    t.ibuf = s.ibuf ∧ t.ibufSize = s.ibufSize ∧ t.argOff = s.argOff ∧ t.argLen = s.argLen ∧
    t.script = s.script ∧ t.busData = s.busData ∧ t.params = s.params := by
  simp [State.hostSide]

theorem record_advance_hostSide (k : Token) (s : State) : (record k (advance k s)).hostSide = s.hostSide := by
  cases k <;> rfl

theorem closeBlock_hostSide {s₀ s : State} (final : Bool) (hs : s.hostSide = s₀.hostSide) :
    Ends (fun _ u => u.hostSide = s₀.hostSide) (fun u => u.hostSide = s₀.hostSide) (closeBlock final s) :=
  closeBlock_ends hs fun _ _ _ _ => hs

theorem hostSide_kept (s₀ : State) :
    KeptInStep (fun _ s => s.hostSide = s₀.hostSide) fun s => s.hostSide = s₀.hostSide where
  fill _ hs _ := fill_ends fun _ ht => by
    obtain ⟨-, rfl⟩ := fill_eq_ok ht
    exact hs
  tally s hs _ :=
    have hrec := (record_advance_hostSide (find s) s).trans hs
    tally_ends (fun _ => closeBlock_hostSide false hrec) fun _ => hrec
  close final _ hs := closeBlock_hostSide final hs
  progress _ hs := hs

theorem exec_decodeCmd_hostSide {w : Word} {s t : State} (h : exec (decodeCmd w) s = .next t) :
    t.hostSide = s.hostSide := by
  rcases exec_decodeCmd_next h with
    ⟨-, rfl⟩ | ⟨-, rfl⟩ | ⟨-, ⟨code, info, -, rfl⟩ | rfl | ⟨v, rfl⟩ | ⟨fl, -, hrun⟩⟩
  case inr.inr.inr.inr.inr =>
    exact (hostSide_kept s).step_command (fun _ _ hu _ => hu) (fun _ _ hu => hu) (fun _ _ _ hu => hu) rfl hrun
  all_goals rfl

theorem exec_hostSide {i : Instr} {s t : State} (h : exec i s = .next t) : t.hostSide = s.hostSide := by
  rcases instr_cases i with ⟨w, rfl⟩ | ⟨w, rfl⟩ | hrow
  · exact exec_decodeCmd_hostSide h
  · rcases unlessFaulted_next h with ⟨-, rfl⟩ | ⟨-, hn⟩
    · rfl
    · exact Host.Outcome.next.inj hn ▸ rfl
  · rcases (hrow s).next h with ⟨w, -, rfl⟩ | ⟨info, rfl⟩ <;> rfl

/-- Settles O56: what each kind of instruction keeps of the host's side; STEP by its micro-operations. -/
theorem coreNeverWritesTheHostsSide : Obligations.CoreNeverWritesTheHostsSide := by
  unfold Obligations.CoreNeverWritesTheHostsSide
  exact fun i s t h => (hostSide_eq_iff s t).1 (exec_hostSide h)

/-! ### The stream (20_memory.md R63, 43_bit_serializer.md R194) -/

theorem closeBlock_extends {z : Serializer} {s : State} (final : Bool) (hs : z.Extends s.ser) :
    Ends (fun _ u => z.Extends u.ser) (fun u => z.Extends u.ser) (closeBlock final s) :=
  closeBlock_ends hs fun _ _ _ hw => hs.trans (emitBlock_extends hw)

theorem extends_kept (z : Serializer) : KeptInStep (fun _ s => z.Extends s.ser) fun s => z.Extends s.ser where
  fill _ hs _ := fill_ends fun _ ht => by
    obtain ⟨-, rfl⟩ := fill_eq_ok ht
    exact hs
  tally s hs _ :=
    have hrec : z.Extends (record (find s) (advance (find s) s)).ser := by rwa [record_ser, advance_ser]
    tally_ends (fun _ => closeBlock_extends false hrec) fun _ => hrec
  close final _ hs := closeBlock_extends final hs
  progress _ hs := hs

theorem step_command_extends {fl : BitVec 2} {s t : State} (h : finish (runStep fl (s.beginStep fl)) = .next t) :
    s.ser.Extends t.ser :=
  (extends_kept s.ser).step_command (fun _ _ hu hser => hu.trans (align_extends hser)) (fun _ _ hu => hu)
    (fun _ _ _ hu => hu) (.refl _) h

/-- A micro-step of an emission appends what the element sends, or resets the block and writes nothing. -/
theorem emitNext_extends {s t : State} (h : emitNext s = .next t) : s.ser.Extends t.ser := by
  rcases emitNext_next h with ⟨-, rfl⟩ | ⟨fmt, w, rest, i, -, hf, hd, hx⟩
  · exact .refl _
  · rcases (rowMeaning_of_decode hf hd _).next hx with ⟨z, hz, rfl⟩ | ⟨info, rfl⟩
    · exact hz
    · exact .refl s.ser

/-- But for RESET, of the command words STEP alone touches the serializer, and it appends. -/
theorem exec_decodeCmd_ser {w : Word} {s t : State} (hw : w ≠ 0) (h : exec (decodeCmd w) s = .next t) :
    t.ser = s.ser ∨ (∃ fl : BitVec 2, w = .ofNat 32 (3 + 16 * fl.toNat)) ∧ s.ser.Extends t.ser := by
  rcases exec_decodeCmd_next h with
    ⟨h0, -⟩ | ⟨-, rfl⟩ | ⟨-, ⟨code, info, -, rfl⟩ | rfl | ⟨v, rfl⟩ | ⟨fl, hfl, hrun⟩⟩
  case inl => exact absurd h0 hw
  case inr.inr.inr.inr.inr =>
    exact .inr ⟨⟨fl, by rw [← hfl, BitVec.ofNat_toNat, BitVec.setWidth_eq]⟩, step_command_extends hrun⟩
  all_goals exact .inl rfl

@[simp] theorem writeReg_ser (s : State) (off : Nat) (v : Word) : (s.writeReg off v).ser = s.ser := by
  unfold State.writeReg
  split <;> rfl

/-- But for a reset, of the host's actions a STEP alone touches the serializer, and it appends. -/
theorem perform_ser {a : HostAction} {s t : State} (ha : a.resets = false) (h : perform a s = .next t) :
    t.ser = s.ser ∨ (∃ fl : BitVec 2, a = .write 0 4 (.ofNat 32 (3 + 16 * fl.toNat))) ∧ s.ser.Extends t.ser := by
  rcases perform_next h with
    ⟨off, bytes, v, rfl, hal, hw⟩ | ⟨off, bytes, rfl, -, rfl⟩ | ⟨x, b, rfl, rfl⟩ | ⟨rfl, -⟩
  · obtain ⟨rfl, -⟩ := (alignedWord_iff off bytes).1 hal
    unfold busWrite at hw
    split at hw
    · next hoff =>
      subst hoff
      have hv : v ≠ 0 := by simpa [HostAction.resets, alignedWord] using ha
      exact (exec_decodeCmd_ser hv hw).imp_right fun ⟨⟨fl, hfl⟩, hext⟩ => ⟨⟨fl, by rw [hfl]⟩, hext⟩
    · exact .inl (Host.Outcome.next.inj hw ▸ writeReg_ser _ _ v)
  · exact .inl rfl
  · exact .inl rfl
  · exact nomatch ha

/-- Settles O57: in an emission by `emitNext_extends`, outside one by `perform_ser`. -/
theorem outputIsAppendOnly : Obligations.OutputIsAppendOnly := by
  unfold Obligations.OutputIsAppendOnly
  intro s t a rest hscript ha h
  rcases step_next h with ⟨hp, hem⟩ | ⟨-, ⟨hnil, -⟩ | ⟨a', rest', hscript', hperf⟩⟩
  · obtain ⟨hout, hbit⟩ := emitNext_extends hem
    exact ⟨hout, hbit, fun hne => absurd hp hne⟩
  · simp [hnil] at hscript
  · obtain ⟨rfl, rfl⟩ := List.cons.inj (hscript.symm.trans hscript')
    rcases perform_ser ha hperf with hser | ⟨⟨fl, hfl⟩, hout, hbit⟩
    · obtain ⟨hout, hbit⟩ := Serializer.Extends.refl s.ser
      rw [hser]
      exact ⟨hout, hbit, fun _ _ => rfl⟩
    · exact ⟨hout, hbit, fun _ hne => absurd hfl (hne fl)⟩

end Sys2Proof.Machine

/-! PROOFS of the family 30_encoding.md: the decoder and the encoder undo each other (R80 to R94), the reserved words
and rows (R82, R91), the length and distance tables (R86, R87), the static codes (R93), and what the rows of the output
formats and the block rows write (R85 to R96). -/

namespace Sys2Proof.Machine

open Claims

/-! ### Command words (30_encoding.md R80, R82) -/

theorem isCommandWord_iff (w : Word) :
    isCommandWord w = true ↔
      w = 0x00 ∨ w = 0x01 ∨ w = 0x02 ∨ w = 0x03 ∨ w = 0x13 ∨ w = 0x23 ∨ w = 0x33 ∨ w = 0x04 := by
  simp [isCommandWord, ← BitVec.toNat_inj]

/-- The three ways a word is reserved: by its `OP`, by a bit of `Z`, by flags on another command than STEP. -/
theorem isCommandWord_eq_false_iff (w : Word) : isCommandWord w = false ↔
    5 ≤ w.toNat % 16 ∨ w.toNat / 64 ≠ 0 ∨ (w.toNat / 16 % 4 ≠ 0 ∧ w.toNat % 16 ≠ 3) := by
  simp only [isCommandWord, decide_eq_false_iff_not, List.mem_cons, List.not_mem_nil, or_false]
  constructor
  · intro hnot
    omega
  · intro hres hmem
    omega

/-- A word that is no command decodes to the reserved row. -/
theorem decodeCmd_of_not_command {w : Word} (h : isCommandWord w = false) : decodeCmd w = .reservedCmd w := by
  rw [isCommandWord_eq_false_iff] at h
  unfold decodeCmd
  dsimp only
  split
  · rfl
  · split
    · omega
    · split
      case h_5 => rfl
      all_goals omega

/-- A command word encodes back to itself, and so does a reserved one. -/
theorem encode_decodeCmd (w : Word) : (decodeCmd w).wf = true ∧ encode (decodeCmd w) = (.cmdw, w) := by
  cases h : isCommandWord w with
  | false =>
    rw [decodeCmd_of_not_command h]
    exact ⟨by simp [Instr.wf, h], rfl⟩
  | true => rcases (isCommandWord_iff w).1 h with rfl | rfl | rfl | rfl | rfl | rfl | rfl | rfl <;> decide

/-! ### Encoding, then decoding -/

/-- A value of the extra bits' width is read back. -/
theorem withExtra_toNat {k : Nat} (mk : BitVec k → Instr) (x : BitVec k) : withExtra k x.toNat mk = .ok (mk x) := by
  rw [withExtra, if_pos x.isLt, BitVec.ofNat_toNat, BitVec.setWidth_eq]

/-- The length symbol `257 + c` is read as row `c` of the table, with the extra value above it (R86). -/
theorem decode_lenSymbol {c ev : Nat} (hc : c < 29) (hev : ev < 2 ^ 5) :
    decode .llsym (.ofNat 32 (c + 257 + 512 * ev)) = decodeLen c ev := by
  have hsym : (c + 257 + 512 * ev) % 2 ^ 32 % 512 = c + 257 := by omega
  have habove : (c + 257 + 512 * ev) % 2 ^ 32 / 512 = ev := by omega
  simp only [decode, decodeLitLen, BitVec.toNat_ofNat, hsym, habove]
  rw [if_neg (by omega), if_neg (by omega), if_pos (by omega), Nat.add_sub_cancel]

/-- The distance symbol `c` is read as row `c` of the table, with the extra value above it (R87). -/
theorem decode_distSymbol {c ev : Nat} (hc : c < 30) (hev : ev < 2 ^ 13) :
    decode .dsym (.ofNat 32 (c + 32 * ev)) = decodeDistRow c ev := by
  have hsym : (c + 32 * ev) % 2 ^ 32 % 32 = c := by omega
  have habove : (c + 32 * ev) % 2 ^ 32 / 32 = ev := by omega
  simp only [decode, decodeDist, BitVec.toNat_ofNat, hsym, habove]
  rw [if_pos hc]

/-- The code-length symbol `c` is read as row `c` of the table, with the extra value above it (R88). -/
theorem decode_codeLenSymbol {c ev : Nat} (hc : c < 19) (hev : ev < 2 ^ 7) :
    decode .clsym (.ofNat 32 (c + 32 * ev)) = decodeCodeLen c ev := by
  have hsym : (c + 32 * ev) % 2 ^ 32 % 32 = c := by omega
  have habove : (c + 32 * ev) % 2 ^ 32 / 32 = ev := by omega
  simp only [decode, BitVec.toNat_ofNat, hsym, habove]

section
variable {c k : Nat} {mk : BitVec k → Instr} (x : BitVec k)

theorem toNat_lt_of_width_le {n : Nat} (hk : k ≤ n) : x.toNat < 2 ^ n :=
  x.isLt.trans_le (Nat.pow_le_pow_right (by decide) hk)

theorem decode_lenRow (hc : c < 29) (hk : k ≤ 5) (hrow : decodeLen c x.toNat = withExtra k x.toNat mk) :
    decode .llsym (.ofNat 32 (c + 257 + 512 * x.toNat)) = .ok (mk x) := by
  rw [decode_lenSymbol hc (toNat_lt_of_width_le x hk), hrow, withExtra_toNat]

theorem decode_distRow (hc : c < 30) (hk : k ≤ 13) (hrow : decodeDistRow c x.toNat = withExtra k x.toNat mk) :
    decode .dsym (.ofNat 32 (c + 32 * x.toNat)) = .ok (mk x) := by
  rw [decode_distSymbol hc (toNat_lt_of_width_le x hk), hrow, withExtra_toNat]

theorem decode_codeLenRow (hc : c < 19) (hk : k ≤ 7) (hrow : decodeCodeLen c x.toNat = withExtra k x.toNat mk) :
    decode .clsym (.ofNat 32 (c + 32 * x.toNat)) = .ok (mk x) := by
  rw [decode_codeLenSymbol hc (toNat_lt_of_width_le x hk), hrow, withExtra_toNat]

end

/-- Settles O48: a row's word gives back its symbol from the low bits and its extra value from those above; the rows
of one word and those whose operand is at most a byte are evaluated. -/
theorem decodeEncodeRoundTrip : Obligations.DecodeEncodeRoundTrip := by
  unfold Obligations.DecodeEncodeRoundTrip
  intro i hi
  cases i with
  | reset | setInput | needsInput | getChecksum => rfl
  | step fl => decide +revert
  | reservedCmd w => exact congrArg Except.ok (decodeCmd_of_not_command (w := w) (by simpa [Instr.wf] using hi))
  | blockStored | blockStoredFinal | blockStatic | blockStaticFinal | blockDynamic | blockDynamicFinal => rfl
  | blockReserved x | llReserved x | distReserved x => decide +revert
  | eob | len257 | len258 | len259 | len260 | len261 | len262 | len263 | len264 | len285 => decide
  | len265 x | len266 x | len267 x | len268 x | len269 x | len270 x | len271 x | len272 x | len273 x | len274 x
  | len275 x | len276 x | len277 x | len278 x | len279 x | len280 x | len281 x | len282 x | len283 x =>
    exact decode_lenRow x (by decide) (by decide) rfl
  | dist0 | dist1 | dist2 | dist3 => rfl
  | dist4 x | dist5 x | dist6 x | dist7 x | dist8 x | dist9 x | dist10 x | dist11 x | dist12 x | dist13 x | dist14 x
  | dist15 x | dist16 x | dist17 x | dist18 x | dist19 x | dist20 x | dist21 x | dist22 x | dist23 x | dist24 x
  | dist25 x | dist26 x | dist27 x | dist28 x | dist29 x => exact decode_distRow x (by decide) (by decide) rfl
  | cl0 | cl1 | cl2 | cl3 | cl4 | cl5 | cl6 | cl7 | cl8 | cl9 | cl10 | cl11 | cl12 | cl13 | cl14 | cl15 => rfl
  | cl16 x | cl17 x | cl18 x => exact decode_codeLenRow x (by decide) (by decide) rfl
  | lit x | len284 x => decide +revert
  | staticLl0To143 x | staticLl144To255 x | staticLl256To279 x | staticLl280To287 x | staticDist x => decide +revert

/-! ### Decoding, then encoding -/

/-- `i` is well formed and encodes to the word `n` of format `fmt`. -/
def Spells (fmt : Format) (n : Nat) (i : Instr) : Prop := i.wf = true ∧ encode i = (fmt, .ofNat 32 n)

theorem spells_of_eq {fmt : Format} {m n : Nat} {i : Instr} (hwf : i.wf = true)
    (henc : encode i = (fmt, .ofNat 32 m)) (hmn : m = n) : Spells fmt n i := ⟨hwf, hmn ▸ henc⟩

@[simp] theorem decodes_noExtra {P : Instr → Prop} (ev : Nat) (i : Instr) :
    Decodes P (noExtra ev i) ↔ (ev = 0 → P i) := by
  simp [noExtra]

@[simp] theorem decodes_withExtra {P : Instr → Prop} {k : Nat} (ev : Nat) (mk : BitVec k → Instr) :
    Decodes P (withExtra k ev mk) ↔ ∀ x : BitVec k, x.toNat = ev → P (mk x) := by
  simp only [withExtra, decodes_ite, decodes_ok, decodes_error, implies_true, and_true]
  constructor
  · rintro h x rfl
    simpa using h x.isLt
  · exact fun h hev => h _ (Nat.mod_eq_of_lt hev)

theorem decodeHeader_spells (n : Nat) : Decodes (Spells .bhdr n) (decodeHeader n) := by
  unfold decodeHeader
  split <;> simp [Spells, encode, Instr.wf]

theorem decodeLen_spells (c ev : Nat) : Decodes (Spells .llsym (c + 257 + 512 * ev)) (decodeLen c ev) := by
  unfold decodeLen
  split
  case h_28 =>
    simp only [decodes_ite, decodes_error, decodes_withExtra, implies_true, true_and]
    rintro hev x rfl
    exact ⟨decide_eq_true (by omega), rfl⟩
  all_goals simp +contextual [Spells, encode, Instr.wf]

theorem decodeLitLen_spells (n : Nat) : Decodes (Spells .llsym n) (decodeLitLen n) := by
  have hlen := decodeLen_spells (n % 512 - 257) (n / 512)
  simp only [decodeLitLen, decodes_ite, decodes_noExtra, decodes_error, implies_true, and_true]
  refine ⟨fun _ _ => ?_, fun _ => ⟨fun _ _ => ?_, fun _ => ⟨fun _ => ?_, fun _ _ _ => ?_⟩⟩⟩
  · exact spells_of_eq rfl rfl (by simp only [BitVec.toNat_ofNat]; omega)
  · exact spells_of_eq rfl rfl (by omega)
  · rwa [show n % 512 - 257 + 257 + 512 * (n / 512) = n by omega] at hlen
  · exact spells_of_eq rfl rfl (by simp only [BitVec.toNat_ofNat]; omega)

theorem decodeDistRow_spells (c ev : Nat) : Decodes (Spells .dsym (c + 32 * ev)) (decodeDistRow c ev) := by
  unfold decodeDistRow
  split <;> simp +contextual [Spells, encode, Instr.wf]

theorem decodeDist_spells (n : Nat) : Decodes (Spells .dsym n) (decodeDist n) := by
  have hrow := decodeDistRow_spells (n % 32) (n / 32)
  simp only [decodeDist, decodes_ite, decodes_noExtra]
  refine ⟨fun _ => ?_, fun _ _ => spells_of_eq rfl rfl (by simp only [BitVec.toNat_ofNat]; omega)⟩
  rwa [Nat.mod_add_div] at hrow

theorem decodeCodeLen_spells (c ev : Nat) : Decodes (Spells .clsym (c + 32 * ev)) (decodeCodeLen c ev) := by
  unfold decodeCodeLen
  split <;> simp +contextual [Spells, encode, Instr.wf]

theorem decodeStatic_spells (bits n : Nat) : Decodes (Spells (.static bits) n) (decodeStatic bits n) := by
  unfold decodeStatic
  split
  case h_3 =>
    simp only [decodes_ite, decodes_ok, decodes_error, implies_true, true_and, and_true]
    refine fun _ => ⟨fun _ => ?_, fun _ _ => ?_⟩ <;>
      exact spells_of_eq (by simp only [Instr.wf, BitVec.toNat_ofNat, decide_eq_true_eq]; omega) rfl
        (by simp only [BitVec.toNat_ofNat]; omega)
  case h_5 => exact decodes_error _
  all_goals
    simp only [decodes_ite, decodes_ok, decodes_error, implies_true, and_true]
    exact fun _ => spells_of_eq (by simp only [Instr.wf, BitVec.toNat_ofNat, decide_eq_true_eq]; omega) rfl
      (by simp only [BitVec.toNat_ofNat]; omega)

/-- Settles O49: format by format, each branch of the decoder spells the word it read. -/
theorem encodeDecodeRoundTrip : Obligations.EncodeDecodeRoundTrip := by
  unfold Obligations.EncodeDecodeRoundTrip
  intro fmt w i h
  suffices hspells : Spells fmt w.toNat i by simpa [Spells] using hspells
  cases fmt with
  | cmdw =>
    obtain rfl := Except.ok.inj h
    simpa [Spells] using encode_decodeCmd w
  | bhdr => exact decodeHeader_spells _ i h
  | llsym => exact decodeLitLen_spells _ i h
  | dsym => exact decodeDist_spells _ i h
  | clsym => exact Nat.mod_add_div w.toNat 32 ▸ decodeCodeLen_spells _ _ i h
  | static bits => exact decodeStatic_spells bits _ i h

/-- Settles O50: the decoder evaluated on the seven words. -/
theorem sampleWordsDecode : Obligations.SampleWordsDecode := by
  unfold Obligations.SampleWordsDecode
  decide

/-! ### Reserved words and rows (30_encoding.md R82, R91) -/

/-- Settles O6: no such word is one of the eight commands, and the reserved row raises `F_BAD_CMD` outside `FAULT`. -/
theorem reservedWordRaisesBadCmd : Obligations.ReservedWordRaisesBadCmd := by
  unfold Obligations.ReservedWordRaisesBadCmd
  refine ⟨fun w => ⟨fun h => ?_, fun h => h ▸ rfl⟩, fun w s hw => ?_⟩
  · rcases decodeCmd_cases w with ⟨-, h0⟩ | hd | hd | hd | hd | ⟨fl, hd, -⟩
    · exact h0
    all_goals exact nomatch hd.symm.trans h
  · have hd := decodeCmd_of_not_command ((isCommandWord_eq_false_iff w).2 hw)
    exact ⟨hd, congrArg (exec · s) hd, fun hp => unlessFaulted_run _ hp, fun hp => unlessFaulted_fault _ hp⟩

/-- Settles O46: the meanings of the three rows. -/
theorem reservedRowsAreRefused : Obligations.ReservedRowsAreRefused := by
  unfold Obligations.ReservedRowsAreRefused
  intro i s h
  cases i with
  | blockReserved | llReserved | distReserved => rfl
  | _ => exact nomatch h

/-! ### The length and distance tables (30_encoding.md R86, R87) -/

/-- In a rising list exactly the entries before the cut of `takeWhile` are at most `x`. -/
theorem lt_takeWhile_length_iff {bases : List Nat} (hrise : bases.Pairwise (· < ·)) (x : Nat) {c : Nat}
    (hc : c < bases.length) :
    c < (bases.takeWhile (fun b => decide (b ≤ x))).length ↔ entry bases c ≤ x := by
  induction bases generalizing c with
  | nil => simp at hc
  | cons b bs ih =>
    obtain ⟨hb, hbs⟩ := List.pairwise_cons.1 hrise
    by_cases hx : b ≤ x
    · rw [List.takeWhile_cons_of_pos (by simpa using hx)]
      cases c with
      | zero => simpa [entry] using hx
      | succ c => simpa [entry] using ih hbs (c := c) (by simpa using hc)
    · rw [List.takeWhile_cons_of_neg (by simpa using hx)]
      cases c with
      | zero => simpa [entry] using hx
      | succ c =>
        have hc : c < bs.length := by simpa using hc
        have := hb _ (List.getElem_mem hc)
        have hentry : entry (b :: bs) (c + 1) = bs[c] := by simp [entry, hc]
        simp only [List.length_nil, Nat.not_lt_zero, false_iff]
        omega

/-- `largestAtMost` is what its name says, on a rising list that begins at most at `x`. -/
theorem largestAtMost_spec {bases : List Nat} (hrise : bases.Pairwise (· < ·)) {x : Nat} (hne : bases ≠ [])
    (hfirst : entry bases 0 ≤ x) :
    entry bases (largestAtMost bases x) ≤ x ∧
    ∀ c < bases.length, entry bases c ≤ x → c ≤ largestAtMost bases x := by
  have hpos := (lt_takeWhile_length_iff hrise x (List.length_pos_iff.2 hne)).2 hfirst
  refine ⟨(lt_takeWhile_length_iff hrise x (largestAtMost_lt x hne)).1 ?_, fun c hc hle => ?_⟩
  · unfold largestAtMost
    omega
  · have := (lt_takeWhile_length_iff hrise x hc).2 hle
    unfold largestAtMost
    omega

/-- Where each base lies `2^extra` below the next one, and the last one below `bound`, what is left of `x` above its
base fits its extra bits. -/
theorem sub_base_lt {bases extras : List Nat} (hrise : bases.Pairwise (· < ·)) {x bound : Nat} (hne : bases ≠ [])
    (hfirst : entry bases 0 ≤ x) (hbound : x < bound)
    (hgap : ∀ c < bases.length, entry (bases ++ [bound]) (c + 1) ≤ entry bases c + 2 ^ entry extras c) :
    x - entry bases (largestAtMost bases x) < 2 ^ entry extras (largestAtMost bases x) := by
  obtain ⟨hle, hlargest⟩ := largestAtMost_spec hrise hne hfirst
  have hk := largestAtMost_lt x hne
  have hnext : x < entry (bases ++ [bound]) (largestAtMost bases x + 1) := by
    by_cases hlast : largestAtMost bases x + 1 < bases.length
    · have happ : entry (bases ++ [bound]) (largestAtMost bases x + 1) =
          entry bases (largestAtMost bases x + 1) := by
        simp [entry, List.getElem?_append_left hlast]
      by_contra hnot
      have := hlargest _ hlast (by omega)
      omega
    · have hend : largestAtMost bases x + 1 = bases.length := by omega
      simpa [entry, hend] using hbound
  have := hgap _ hk
  omega

theorem distCode_spec {d : Nat} (hlow : 1 ≤ d) (hhigh : d ≤ 32768) :
    entry dBase (distCode d) ≤ d ∧ d - entry dBase (distCode d) < 2 ^ entry dExtra (distCode d) ∧
    ∀ c ≤ 29, entry dBase c ≤ d → c ≤ distCode d := by
  have hrise : dBase.Pairwise (· < ·) := by decide
  obtain ⟨hle, hlargest⟩ := largestAtMost_spec hrise (by decide) hlow
  exact ⟨hle, sub_base_lt hrise (by decide) hlow (Nat.lt_succ_of_le hhigh) (by decide),
    fun c hc => hlargest c (Nat.lt_succ_of_le hc)⟩

/-- Settles O31: `DBASE` rises, and each entry's extra bits reach the next one. -/
theorem distanceSymbolCoversDistance : Obligations.DistanceSymbolCoversDistance := by
  unfold Obligations.DistanceSymbolCoversDistance
  intro d hlow hhigh
  exact ⟨Nat.le_of_lt_succ (distCode_lt d), distCode_spec hlow hhigh⟩

/-- Settles O30: as for distances, over the 28 symbols below 285; length 258 has symbol 285 to itself. -/
theorem lengthSymbolCoversLength : Obligations.LengthSymbolCoversLength := by
  unfold Obligations.LengthSymbolCoversLength
  intro l hlow hhigh
  refine ⟨lenCode_le l, ?_⟩
  by_cases hl : l = 258
  · subst hl
    decide
  · have hrise : (lBase.take 28).Pairwise (· < ·) := by decide
    have hcode : lenCode l = largestAtMost (lBase.take 28) l := if_neg hl
    have hlt : lenCode l < 28 := hcode ▸ largestAtMost_lt l (by decide)
    have hbase : entry lBase (lenCode l) = entry (lBase.take 28) (lenCode l) := by simp [entry, hlt]
    obtain ⟨hle, -⟩ := largestAtMost_spec hrise (by decide) hlow
    have hfit := sub_base_lt (extras := lExtra) (bound := 258) hrise (by decide) hlow (by omega) (by decide)
    rw [hbase]
    rw [hcode] at *
    exact ⟨hle, hfit, by omega⟩

/-! ### The static codes (30_encoding.md R93) -/

/-- Settles O29: the canonical assignment evaluated on the 288 lengths. -/
theorem staticCodesAreCanonical : Obligations.StaticCodesAreCanonical := by
  unfold Obligations.StaticCodesAreCanonical
  decide +kernel

/-! ### The bit stream (43_bit_serializer.md R193, 20_memory.md R65) -/

@[simp] theorem bits_length (v n : Nat) : (bits v n).length = n := by
  induction n generalizing v with
  | zero => rfl
  | succ n ih => simp [bits, ih]

@[simp] theorem byteBits_nil : byteBits [] = [] := rfl

@[simp] theorem byteBits_cons (b : Byte) (bs : List Byte) : byteBits (b :: bs) = bits b.toNat 8 ++ byteBits bs := rfl

@[simp] theorem byteBits_append (as bs : List Byte) : byteBits (as ++ bs) = byteBits as ++ byteBits bs :=
  List.flatMap_append

@[simp] theorem byteBits_length (bs : List Byte) : (byteBits bs).length = 8 * bs.length := by
  simp [byteBits, List.length_flatMap, Nat.mul_comm]

@[simp] theorem fieldBits_nil : fieldBits [] = [] := rfl

@[simp] theorem fieldBits_cons (f : BitField) (fs : List BitField) :
    fieldBits (f :: fs) = f.bits ++ fieldBits fs := rfl

@[simp] theorem fieldBits_append (fs gs : List BitField) : fieldBits (fs ++ gs) = fieldBits fs ++ fieldBits gs :=
  List.flatMap_append

theorem bits_zero (n : Nat) : bits 0 n = List.replicate n false := by
  induction n with
  | zero => rfl
  | succ n ih => simp [bits, ih, List.replicate_succ]

/-- Bits from place `n` on do not show in the low `n` bits. -/
theorem bits_add_mul (a v n : Nat) : bits (a + v * 2 ^ n) n = bits a n := by
  induction n generalizing a with
  | zero => rfl
  | succ n ih =>
    have hpow : a + v * 2 ^ (n + 1) = a + 2 * (v * 2 ^ n) := by rw [Nat.pow_succ]; ring
    rw [hpow, bits, bits, Nat.add_mul_mod_self_left, Nat.add_mul_div_left _ _ (by decide), ih]

theorem bits_mod (v n : Nat) : bits (v % 2 ^ n) n = bits v n := by
  conv_rhs => rw [← Nat.mod_add_div v (2 ^ n), Nat.mul_comm, bits_add_mul]

/-- The low `m` bits, then those above them. -/
theorem bits_add (v m n : Nat) : bits v (m + n) = bits v m ++ bits (v / 2 ^ m) n := by
  induction m generalizing v with
  | zero => simp [bits]
  | succ m ih => rw [Nat.succ_add, bits, bits, ih, Nat.div_div_eq_div_mul, Nat.pow_succ']; rfl

/-- A field put above the bits already there. -/
theorem bits_append {a nb : Nat} (ha : a < 2 ^ nb) (v n : Nat) :
    bits (a + v * 2 ^ nb) (nb + n) = bits a nb ++ bits v n := by
  rw [bits_add, bits_add_mul, Nat.add_mul_div_right _ _ (Nat.two_pow_pos nb), Nat.div_eq_of_lt ha, Nat.zero_add]

/-- Taking whole bytes off the low end keeps the bits and their order. -/
theorem byteBits_wholeBytes (k t r : Nat) :
    byteBits (wholeBytes k t) ++ bits (t / 256 ^ k) r = bits t (8 * k + r) := by
  induction k generalizing t with
  | zero => simp [wholeBytes]
  | succ k ih =>
    have hbyte : bits (BitVec.ofNat 8 (t % 256)).toNat 8 = bits t 8 := by
      rw [BitVec.toNat_ofNat, bits_mod]
      exact bits_mod t 8
    rw [wholeBytes, byteBits_cons, hbyte, Nat.pow_succ', ← Nat.div_div_eq_div_mul, List.append_assoc, ih,
      show 8 * (k + 1) + r = 8 + (8 * k + r) by ring, bits_add t 8]
    rfl

theorem fits_iff (f : BitField) : f.fits = true ↔ f.n ≤ 16 ∧ f.v < 2 ^ f.n := by simp [BitField.fits]

/-- PUT_BITS appends its field, low bit first. -/
theorem push_stream {z : Serializer} {f : BitField} (hz : z.wf) (hf : f.fits = true) :
    (z.push f).stream = z.stream ++ f.bits := by
  obtain ⟨-, -, hacc⟩ := hz
  obtain ⟨-, hv⟩ := (fits_iff f).1 hf
  have hrest := div_wholeBytes_lt (acc_add_field_lt hacc hv)
  have hfit : 2 ^ ((z.nb.toNat + f.n) % 8) ≤ 2 ^ 7 := Nat.pow_le_pow_right (by decide) (by omega)
  have hnb : (z.push f).nb.toNat = (z.nb.toNat + f.n) % 8 := by simp [Serializer.push]
  have hval : (z.push f).acc.toNat =
      (z.acc.toNat + f.v * 2 ^ z.nb.toNat) / 256 ^ ((z.nb.toNat + f.n) / 8) :=
    Nat.mod_eq_of_lt (hrest.trans_le hfit)
  rw [Serializer.stream, hnb, hval, Serializer.push, byteBits_append, List.append_assoc, byteBits_wholeBytes,
    Nat.div_add_mod, bits_append hacc, ← List.append_assoc]
  rfl

/-- The stream is as long as `BITPOS` says. -/
theorem stream_length {z : Serializer} (hz : z.wf) : z.stream.length = z.bitpos := by
  obtain ⟨hnb, hout, -⟩ := hz
  simp only [Serializer.stream, List.length_append, byteBits_length, bits_length]
  omega

/-! ### What serializer operations write -/

/-- `r` is an operation on `z` that ends well, appends `bs` to the stream and keeps the serializer's counts. -/
def Writes (z : Serializer) (bs : List Bool) (r : Except Refusal Serializer) : Prop :=
  ∃ w, r = .ok w ∧ w.wf ∧ w.stream = z.stream ++ bs

section
variable {z : Serializer} (hz : z.wf)
include hz

/-- Two operations in a row write one's bits after the other's. -/
theorem Writes.bind {as bs : List Bool} {r : Except Refusal Serializer} {k : Serializer → Except Refusal Serializer}
    (hr : Writes z as r) (hk : ∀ w, r = .ok w → w.wf → w.bitpos = z.bitpos + as.length → Writes w bs (k w)) :
    Writes z (as ++ bs) (r.bind k) := by
  obtain ⟨w, rfl, hw, hstream⟩ := hr
  have hpos : w.bitpos = z.bitpos + as.length := by
    rw [← stream_length hw, hstream, List.length_append, stream_length hz]
  obtain ⟨y, hy, hwf, hbits⟩ := hk w rfl hw hpos
  exact ⟨y, hy, hwf, by rw [hbits, hstream, List.append_assoc]⟩

theorem putBits_writes {f : BitField} (hf : f.fits = true) (hroom : z.bitpos + f.n < 2 ^ 64) :
    Writes z f.bits (putBits f z) :=
  ⟨z.push f, by rw [putBits, if_pos hf, if_pos hroom], push_wf hz hf, push_stream hz hf⟩

theorem putFields_writes {fs : List BitField} (hfs : ∀ f ∈ fs, f.fits = true)
    (hroom : z.bitpos + (fieldBits fs).length < 2 ^ 64) : Writes z (fieldBits fs) (putFields fs z) := by
  induction fs generalizing z with
  | nil => exact ⟨z, rfl, hz, (List.append_nil _).symm⟩
  | cons f fs ih =>
    obtain ⟨hf, hfs⟩ := List.forall_mem_cons.1 hfs
    have hlen : f.bits.length = f.n := bits_length f.v f.n
    rw [fieldBits_cons, List.length_append, hlen] at hroom
    exact (putBits_writes hz hf (by omega)).bind hz fun w _ hw hpos => ih hw hfs (by omega)

/-- ALIGN writes zero bits up to the byte boundary (43_bit_serializer.md R191). -/
theorem align_writes (hroom : z.bitpos + 7 < 2 ^ 64) :
    Writes z (List.replicate ((8 - z.nb.toNat) % 8) false) (align z) := by
  unfold align
  split
  · next hnb => exact ⟨z, rfl, hz, by simp [hnb]⟩
  · next hnb =>
    have hpos : z.nb.toNat ≠ 0 := fun h => hnb (BitVec.eq_of_toNat_eq h)
    have hpad : (8 - z.nb.toNat) % 8 = 8 - z.nb.toNat := Nat.mod_eq_of_lt (by omega)
    rw [hpad, ← bits_zero]
    exact putBits_writes hz ((fits_iff _).2 ⟨by dsimp only; omega, Nat.two_pow_pos _⟩) (by dsimp only; omega)

/-- PUT_BYTES at a byte boundary writes its bytes (43_bit_serializer.md R192). -/
theorem putBytes_writes {seq : List Byte} (hnb : z.nb = 0) (hroom : z.bitpos + 8 * seq.length < 2 ^ 64) :
    Writes z (byteBits seq) (putBytes seq z) := by
  have hok : putBytes seq z = .ok { z with out := z.out ++ seq, bitpos := z.bitpos + 8 * seq.length } := by
    rw [putBytes, if_pos hnb, if_pos hroom]
  exact ⟨_, hok, (putBytes_sound hz hok).1, by simp [Serializer.stream, hnb, bits]⟩

end

/-! ### Fields `PUT_BITS` admits (43_bit_serializer.md R190) -/

/-- Admitted fields write at most 16 bits each. -/
theorem fieldBits_length_le {fs : List BitField} (h : ∀ f ∈ fs, f.fits = true) :
    (fieldBits fs).length ≤ 16 * fs.length := by
  induction fs with
  | nil => simp
  | cons f fs ih =>
    obtain ⟨hf, hfs⟩ := List.forall_mem_cons.1 h
    have hn : f.bits.length ≤ 16 := by simpa [BitField.bits] using ((fits_iff f).1 hf).1
    have := ih hfs
    simp only [fieldBits_cons, List.length_append, List.length_cons]
    omega

theorem toNat_fits {k : Nat} (x : BitVec k) (hk : k ≤ 16) : BitField.fits { v := x.toNat, n := k } = true :=
  (fits_iff _).2 ⟨hk, x.isLt⟩

theorem extraBits_fit {v n : Nat} (hn : n ≤ 16) (hv : v < 2 ^ n) : ∀ f ∈ extraBits v n, f.fits = true := by
  unfold extraBits
  split
  · simpa using (fits_iff _).2 ⟨hn, hv⟩
  · simp

theorem extraBits_length_le (v n : Nat) : (extraBits v n).length ≤ 1 := by
  unfold extraBits
  split <;> simp

@[simp] theorem fieldBits_extraBits (v n : Nat) : fieldBits (extraBits v n) = bits v n := by
  cases n <;> simp [extraBits, bits, BitField.bits]

/-! ### Reversed codes (30_encoding.md R93, 41_huffman_builder.md R147) -/

theorem bitrev_lt (v n : Nat) : bitrev v n < 2 ^ n := by
  induction n generalizing v with
  | zero => simp [bitrev]
  | succ n ih =>
    have hlow := ih (v / 2)
    have hbit : v % 2 * 2 ^ n ≤ 1 * 2 ^ n := Nat.mul_le_mul_right _ (by omega)
    rw [bitrev, Nat.pow_succ]
    omega

/-- A reversed code sent low bit first goes out most significant bit first. -/
theorem bits_bitrev (v n : Nat) : bits (bitrev v n) n = (bits v n).reverse := by
  induction n generalizing v with
  | zero => rfl
  | succ n ih =>
    have hbit : bits (v % 2) 1 = [decide (v % 2 = 1)] := by simp [bits]
    rw [bitrev, Nat.add_comm, bits_append (bitrev_lt _ n), ih, hbit, bits, List.reverse_cons]

theorem bitrev_fits {n : Nat} (c : Nat) (hn : n ≤ 16) : BitField.fits { v := bitrev c n, n := n } = true :=
  (fits_iff _).2 ⟨hn, bitrev_lt c n⟩

theorem staticLit_fits (s : Nat) : (staticLit s).fits = true := by
  refine bitrev_fits _ ?_
  unfold staticLitMsb
  split_ifs <;> simp

theorem staticDist_fits (c : Nat) : (staticDist c).fits = true := bitrev_fits c (by decide)

/-! ### What BUILD_CODE gives (41_huffman_builder.md R140 to R148) -/

theorem entry_le {t : List Nat} {b : Nat} (h : ∀ x ∈ t, x ≤ b) (i : Nat) : entry t i ≤ b := by
  by_cases hi : i < t.length
  · simpa [entry, hi] using h _ (List.getElem_mem hi)
  · simp [entry, hi]

@[simp] theorem tableOf_length (n : Nat) (pairs : List (Nat × Nat)) : (tableOf n pairs).length = n := by
  induction pairs using List.reverseRecOn with
  | nil => simp [tableOf]
  | append_singleton pairs x ih => simpa [tableOf] using ih

/-- A table holds only the values it was given, and zeros. -/
theorem tableOf_le {n b : Nat} {pairs : List (Nat × Nat)} (h : ∀ x ∈ pairs, x.2 ≤ b) :
    ∀ y ∈ tableOf n pairs, y ≤ b := by
  induction pairs using List.reverseRecOn with
  | nil =>
    intro y hy
    simp [(List.mem_replicate.1 hy).2]
  | append_singleton pairs x ih =>
    have ih := ih fun y hy => h y (by simp [hy])
    intro y hy
    simp only [tableOf, List.foldl_append, List.foldl_cons, List.foldl_nil] at hy
    rcases List.mem_or_eq_of_mem_set hy with hy | rfl
    · exact ih y hy
    · exact h x (by simp)

@[simp] theorem buildTree_length (freq : List Nat) : (buildTree freq).length = freq.length := by
  unfold buildTree
  split
  · simp
  · simp
  · split <;> simp

@[simp] theorem bucketCounts_length (freq depth : List Nat) (cap : Nat) :
    (bucketCounts freq depth cap).length = cap := by
  unfold bucketCounts
  induction leaves freq using List.reverseRecOn with
  | nil => simp
  | append_singleton l s ih => simpa using ih

theorem redistribute_length {cap guard : Nat} {cnt cnt' : List Nat} {overflow overflow' : Int}
    (h : redistribute cap guard cnt overflow = some (cnt', overflow')) : cnt'.length = cnt.length := by
  induction guard generalizing cnt overflow with
  | zero =>
    unfold redistribute at h
    split at h
    · cases h; rfl
    · cases h
  | succ guard ih =>
    unfold redistribute at h
    split at h
    · cases h; rfl
    · split at h
      · next hg hb =>
        cases hg
        simpa [moveDeeper] using ih h
      · cases h

theorem repairOvershoot_length {cap : Nat} {cnt cnt' : List Nat} {overflow : Int}
    (h : repairOvershoot cap cnt overflow = some cnt') : cnt'.length = cnt.length := by
  unfold repairOvershoot at h
  dsimp only at h
  split at h
  · split at h
    · cases h
    · cases h; simp
  · cases h; rfl

theorem bucketLengths_lt {l : Nat} {cnt : List Nat} : ∀ x ∈ bucketLengths l cnt, x < l + cnt.length := by
  induction cnt generalizing l with
  | nil => simp [bucketLengths]
  | cons c cs ih =>
    intro x hx
    rw [List.length_cons]
    rcases List.mem_append.1 hx with hx | hx
    · have := (List.mem_replicate.1 hx).2
      omega
    · have := ih x hx
      omega

/-- LIMIT_LENGTHS gives no length above the cap. -/
theorem limitLengths_le {freq depth len : List Nat} {cap : Nat} (h : limitLengths freq depth cap = .ok len) :
    ∀ x ∈ len, x ≤ cap := by
  unfold limitLengths at h
  split at h
  · next hall =>
    cases h
    simpa using hall
  · dsimp only at h
    split at h
    · cases h
    · next cnt overflow hred =>
      split at h
      · cases h
      · next cnt' hrep =>
        cases h
        have hlen : cnt'.length = cap := by
          rw [repairOvershoot_length hrep, redistribute_length hred, bucketCounts_length]
        refine tableOf_le fun x hx => ?_
        have := bucketLengths_lt x.2 (List.of_mem_zip hx).2
        omega

theorem limitLengths_length {freq depth len : List Nat} {cap : Nat} (hd : depth.length = freq.length)
    (h : limitLengths freq depth cap = .ok len) : len.length = freq.length := by
  unfold limitLengths at h
  split at h
  · cases h; exact hd
  · dsimp only at h
    split at h
    · cases h
    · split at h
      · cases h
      · cases h; exact tableOf_length ..

/-- Every code of the table fits the length its symbol has. -/
theorem canon_lt (len : List Nat) (cap s : Nat) : entry (canon len cap) s < 2 ^ entry len s := by
  rw [entry, canon, List.getD_eq_getElem?_getD, List.getElem?_zipWith]
  split
  · next hlen => simpa [entry, hlen] using bitrev_lt _ _
  · simp

/-- A code table whose codes fit their lengths, none of which is above the cap. -/
def CodeTable.Within (t : CodeTable) (cap : Nat) : Prop :=
  (∀ s, entry t.len s ≤ cap) ∧ ∀ s, entry t.code s < 2 ^ entry t.len s

theorem CodeTable.Within.field_fits {t : CodeTable} {cap : Nat} (h : t.Within cap) (hcap : cap ≤ 16) (s : Nat) :
    (t.field s).fits = true := (fits_iff _).2 ⟨(h.1 s).trans hcap, h.2 s⟩

theorem buildCode_ok {freq : List Nat} {minCodes cap : Nat} {b : Built} (h : buildCode freq minCodes cap = .ok b) :
    b.table.Within cap ∧ b.table.len.length = freq.length ∧ b.num = numCodes b.table.len minCodes := by
  unfold buildCode at h
  split at h
  · cases h
  · next len hlen =>
    cases h
    exact ⟨⟨entry_le (limitLengths_le hlen), canon_lt len cap⟩,
      limitLengths_length (buildTree_length freq) hlen, rfl⟩

theorem usedUpTo_le (s : Nat) (len : List Nat) : usedUpTo s len ≤ s + len.length := by
  induction len generalizing s with
  | nil => simp [usedUpTo]
  | cons l ls ih =>
    have := ih (s + 1)
    simp only [usedUpTo, List.length_cons]
    split <;> omega

theorem numCodes_le (len : List Nat) (minCodes : Nat) : numCodes len minCodes ≤ max minCodes len.length := by
  have := usedUpTo_le 0 len
  unfold numCodes
  omega

/-! ### What sizing a block gives (42_block_coordinator.md R160, R163) -/

/-- Lines 3 to 8 of CLOSE_BLOCK, where they end well. -/
theorem sizeBlock_ok {lfreq dfreq : List Word} {blOf : List ClSym → List Word} {z : Sizing}
    (h : sizeBlock lfreq dfreq blOf = .ok z) :
    buildCode (counts lfreq) 257 Config.maxBits = .ok z.l ∧ buildCode (counts dfreq) 1 Config.maxBits = .ok z.d ∧
    z.seq = lengthSequence z.l z.d ∧ z.blfreq = blOf z.seq ∧
    buildCode (counts z.blfreq) 4 Config.maxBlBits = .ok z.bl ∧ z.hclen = hclenOf z.bl.table.len := by
  unfold sizeBlock at h
  cases hl : buildCode (counts lfreq) 257 Config.maxBits with
  | error info => rw [hl] at h; cases h
  | ok l =>
    cases hd : buildCode (counts dfreq) 1 Config.maxBits with
    | error info => rw [hl, hd] at h; cases h
    | ok d =>
      cases hbl : buildCode (counts (blOf (lengthSequence l d))) 4 Config.maxBlBits with
      | error info => simp only [hl, hd, hbl, Except.bind] at h; cases h
      | ok bl =>
        simp only [hl, hd, hbl, Except.bind] at h
        cases h
        exact ⟨rfl, rfl, rfl, rfl, hbl, rfl⟩

theorem sizing_of_emitting {s : State} (h : s.phase = .emitting) :
    s.sizing = sizeBlock s.lfreq s.dfreq fun _ => s.blfreq := if_pos (.inr h)

/-- A code-length symbol whose extra value fits its extra bits, which are at most 7 (30_encoding.md R88). -/
def ClSym.Fits (c : ClSym) : Prop := c.eb ≤ 7 ∧ c.ev < 2 ^ c.eb

theorem plainCl_fits (v : Nat) : (plainCl v).Fits := ⟨Nat.zero_le 7, Nat.one_pos⟩

theorem zeroRun_fits (fuel run : Nat) : ∀ c ∈ zeroRun fuel run, c.Fits := by
  induction fuel generalizing run with
  | zero => simp [zeroRun]
  | succ fuel ih =>
    unfold zeroRun
    split
    · exact List.forall_mem_cons.2 ⟨⟨le_rfl, by dsimp only; omega⟩, ih _⟩
    · split
      · simp only [List.mem_singleton, forall_eq]
        exact ⟨by dsimp only; omega, by dsimp only; omega⟩
      · exact fun c hc => (List.mem_replicate.1 hc).2 ▸ plainCl_fits 0

theorem repeatRun_fits (v fuel run : Nat) : ∀ c ∈ repeatRun v fuel run, c.Fits := by
  induction fuel generalizing run with
  | zero => simp [repeatRun]
  | succ fuel ih =>
    unfold repeatRun
    split
    · exact List.forall_mem_cons.2 ⟨⟨by dsimp only; omega, by dsimp only; omega⟩, ih _⟩
    · exact fun c hc => (List.mem_replicate.1 hc).2 ▸ plainCl_fits v

theorem rle_fits (seq : List Nat) : ∀ c ∈ rle seq, c.Fits := by
  intro c hc
  obtain ⟨⟨v, run⟩, -, hc⟩ := List.mem_flatMap.1 hc
  unfold runSymbols at hc
  split at hc
  · exact zeroRun_fits _ _ c hc
  · rcases List.mem_cons.1 hc with rfl | hc
    · exact plainCl_fits v
    · exact repeatRun_fits _ _ _ c hc

/-! A run is never coded in more symbols than it has lengths. -/

theorem zeroRun_length_le (fuel run : Nat) : (zeroRun fuel run).length ≤ run := by
  induction fuel generalizing run with
  | zero => simp [zeroRun]
  | succ fuel ih =>
    unfold zeroRun
    split
    · have := ih (run - min run 138)
      rw [List.length_cons]
      omega
    · split
      · simp only [List.length_singleton]
        omega
      · simp

theorem repeatRun_length_le (v fuel run : Nat) : (repeatRun v fuel run).length ≤ run := by
  induction fuel generalizing run with
  | zero => simp [repeatRun]
  | succ fuel ih =>
    unfold repeatRun
    split
    · have := ih (run - min run 6)
      rw [List.length_cons]
      omega
    · simp

theorem runSymbols_length_le {v run : Nat} (h : 1 ≤ run) : (runSymbols v run).length ≤ run := by
  unfold runSymbols
  split
  · exact zeroRun_length_le run run
  · have := repeatRun_length_le v (run - 1) (run - 1)
    rw [List.length_cons]
    omega

theorem maximalRuns_pos (seq : List Nat) : ∀ r ∈ maximalRuns seq, 1 ≤ r.2 := by
  induction seq with
  | nil => simp [maximalRuns]
  | cons v vs ih =>
    unfold maximalRuns
    split
    · simp
    · next heq =>
      rw [heq] at ih
      obtain ⟨hn, hrest⟩ := List.forall_mem_cons.1 ih
      split
      · exact List.forall_mem_cons.2 ⟨Nat.le_add_left .., hrest⟩
      · exact List.forall_mem_cons.2 ⟨le_rfl, ih⟩

theorem maximalRuns_total (seq : List Nat) : ((maximalRuns seq).map Prod.snd).sum = seq.length := by
  induction seq with
  | nil => rfl
  | cons v vs ih =>
    unfold maximalRuns
    split
    · next heq =>
      rw [heq] at ih
      simp [← ih]
    · next heq =>
      rw [heq] at ih
      simp only [List.map_cons, List.sum_cons] at ih
      split <;> simp only [List.map_cons, List.sum_cons, List.length_cons] <;> omega

theorem rle_length_le (seq : List Nat) : (rle seq).length ≤ seq.length := by
  rw [rle, List.length_flatMap, ← maximalRuns_total seq]
  exact List.sum_le_sum fun r hr => runSymbols_length_le (maximalRuns_pos seq r hr)

/-! ### Rows that send (43_bit_serializer.md R194) -/

/-- The outcome `o` appends `bs` to the stream of `s` and changes nothing but the serializer. -/
def Sends (s : State) (bs : List Bool) (o : Host.Outcome State Fault Refusal) : Prop :=
  ∃ w, o = .next { s with ser := w } ∧ w.wf ∧ w.stream = s.ser.stream ++ bs

section
variable {s : State} {bs : List Bool} (hp : s.phase = .emitting)
include hp

theorem sendFrom_sends {emit : State → Except Refusal Serializer} (h : Writes s.ser bs (emit s)) :
    Sends s bs (sendFrom emit s) := by
  obtain ⟨w, hw, hwf, hstream⟩ := h
  refine ⟨w, ?_, hwf, hstream⟩
  rw [sendFrom, if_pos (show s.emitting = true from decide_eq_true hp), hw]
  rfl

theorem sendSized_sends {emit : Sizing → State → Except Refusal Serializer} {z : Sizing} (hz : s.sizing = .ok z)
    (h : Writes s.ser bs (emit z s)) : Sends s bs (sendSized emit s) := by
  rw [sendSized, if_pos (show s.emitting = true from decide_eq_true hp), hz]
  exact sendFrom_sends hp h

end

/-! ### Symbol rows (30_encoding.md R86 to R88, R90) -/

/-- Codes whose every symbol is a field `PUT_BITS` admits. -/
def BlockCodes.Fit (codes : BlockCodes) : Prop :=
  (∀ c, (codes.lit c).fits = true) ∧ ∀ c, (codes.dist c).fits = true

theorem fixed_fit : BlockCodes.fixed.Fit := ⟨staticLit_fits, staticDist_fits⟩

theorem built_fit {lfreq dfreq : List Word} {blOf : List ClSym → List Word} {z : Sizing}
    (h : sizeBlock lfreq dfreq blOf = .ok z) : z.codes.Fit := by
  obtain ⟨hl, hd, -⟩ := sizeBlock_ok h
  exact ⟨(buildCode_ok hl).1.field_fits (by decide), (buildCode_ok hd).1.field_fits (by decide)⟩

/-- The codes of the block under emission. -/
theorem blockCodes_fit {s : State} {z : Sizing} (hp : s.phase = .emitting) (hz : s.sizing = .ok z) :
    (s.blockCodes z).Fit := by
  unfold State.blockCodes
  split
  · exact built_fit ((sizing_of_emitting hp).symm.trans hz)
  · exact fixed_fit

/-- If the row sends anything, it is at most two fields, each of which `PUT_BITS` admits. -/
def RowFits (row : Option (List BitField)) : Prop :=
  ∀ fs, row = some fs → (∀ f ∈ fs, f.fits = true) ∧ (fieldBits fs).length ≤ 32

theorem rowFits_none : RowFits none := fun _ h => nomatch h

theorem rowFits_code {f : BitField} (hf : f.fits = true) : RowFits (some [f]) := by
  rintro _ ⟨⟩
  have hfs : ∀ g ∈ [f], g.fits = true := by simpa using hf
  exact ⟨hfs, (fieldBits_length_le hfs).trans (by simp)⟩

theorem rowFits_codeExtra {f : BitField} (hf : f.fits = true) {k : Nat} (x : BitVec k) (hk : k ≤ 16) :
    RowFits (some [f, { v := x.toNat, n := k }]) := by
  rintro _ ⟨⟩
  have hfs : ∀ g ∈ [f, { v := x.toNat, n := k }], g.fits = true := by simpa using ⟨hf, toNat_fits x hk⟩
  exact ⟨hfs, (fieldBits_length_le hfs).trans (by simp)⟩

theorem symbolFields_fit {codes : BlockCodes} (hc : codes.Fit) (i : Instr) : RowFits (symbolFields codes i) := by
  obtain ⟨hlit, hdist⟩ := hc
  cases i with
  | lit | eob | len257 | len258 | len259 | len260 | len261 | len262 | len263 | len264 | len285 =>
    exact rowFits_code (hlit _)
  | len265 x | len266 x | len267 x | len268 x | len269 x | len270 x | len271 x | len272 x | len273 x | len274 x
  | len275 x | len276 x | len277 x | len278 x | len279 x | len280 x | len281 x | len282 x | len283 x | len284 x =>
    exact rowFits_codeExtra (hlit _) x (by decide)
  | dist0 | dist1 | dist2 | dist3 => exact rowFits_code (hdist _)
  | dist4 x | dist5 x | dist6 x | dist7 x | dist8 x | dist9 x | dist10 x | dist11 x | dist12 x | dist13 x | dist14 x
  | dist15 x | dist16 x | dist17 x | dist18 x | dist19 x | dist20 x | dist21 x | dist22 x | dist23 x | dist24 x
  | dist25 x | dist26 x | dist27 x | dist28 x | dist29 x => exact rowFits_codeExtra (hdist _) x (by decide)
  | _ => exact rowFits_none

theorem codeLengthFields_fit {bl : CodeTable} (hbl : ∀ c, (bl.field c).fits = true) (i : Instr) :
    RowFits (codeLengthFields bl i) := by
  cases i with
  | cl0 | cl1 | cl2 | cl3 | cl4 | cl5 | cl6 | cl7 | cl8 | cl9 | cl10 | cl11 | cl12 | cl13 | cl14 | cl15 =>
    exact rowFits_code (hbl _)
  | cl16 x | cl17 x | cl18 x => exact rowFits_codeExtra (hbl _) x (by decide)
  | _ => exact rowFits_none

/-- A literal/length or distance row sends what the opcode table writes for it. -/
theorem exec_symbolRow {codes : BlockCodes} {i : Instr} (h : (symbolFields codes i).isSome = true) (s : State) :
    exec i s = sendSymbol (fun codes => (symbolFields codes i).getD []) s := by
  cases i with
  | lit | eob | len257 | len258 | len259 | len260 | len261 | len262 | len263 | len264 | len265 | len266 | len267
  | len268 | len269 | len270 | len271 | len272 | len273 | len274 | len275 | len276 | len277 | len278 | len279 | len280
  | len281 | len282 | len283 | len284 | len285 | dist0 | dist1 | dist2 | dist3 | dist4 | dist5 | dist6 | dist7 | dist8
  | dist9 | dist10 | dist11 | dist12 | dist13 | dist14 | dist15 | dist16 | dist17 | dist18 | dist19 | dist20 | dist21
  | dist22 | dist23 | dist24 | dist25 | dist26 | dist27 | dist28 | dist29 => rfl
  | _ => exact nomatch h

/-- A code-length row sends what the opcode table writes for it. -/
theorem exec_codeLengthRow {bl : CodeTable} {i : Instr} (h : (codeLengthFields bl i).isSome = true) (s : State) :
    exec i s = sendSized (fun z s => putFields ((codeLengthFields z.bl.table i).getD []) s.ser) s := by
  cases i with
  | cl0 | cl1 | cl2 | cl3 | cl4 | cl5 | cl6 | cl7 | cl8 | cl9 | cl10 | cl11 | cl12 | cl13 | cl14 | cl15 | cl16 | cl17
  | cl18 => rfl
  | _ => exact nomatch h

/-- Settles O40: each row sends the table's fields, which fit whatever codes the block has. -/
theorem symbolRowsSendTheirCode : Obligations.SymbolRowsSendTheirCode := by
  unfold Obligations.SymbolRowsSendTheirCode
  intro s z i fs hp hwf hz hfs hroom
  obtain ⟨hfit, hlen⟩ := symbolFields_fit (blockCodes_fit hp hz) i fs hfs
  rw [exec_symbolRow (Option.isSome_of_eq_some hfs)]
  refine sendSized_sends hp hz ?_
  dsimp only
  rw [hfs]
  exact putFields_writes hwf hfit (by omega)

/-- Settles O41: as for symbols, with the block's code-length code. -/
theorem codeLengthRowsSendTheirCode : Obligations.CodeLengthRowsSendTheirCode := by
  unfold Obligations.CodeLengthRowsSendTheirCode
  intro s z i fs hp hwf hz hfs hroom
  obtain ⟨-, -, -, -, hbl, -⟩ := sizeBlock_ok ((sizing_of_emitting hp).symm.trans hz)
  obtain ⟨hfit, hlen⟩ := codeLengthFields_fit ((buildCode_ok hbl).1.field_fits (by decide)) i fs hfs
  rw [exec_codeLengthRow (Option.isSome_of_eq_some hfs)]
  refine sendSized_sends hp hz ?_
  rw [hfs]
  exact putFields_writes hwf hfit (by omega)

/-! ### Static rows (30_encoding.md R93, R94) -/

theorem exec_staticRow {i : Instr} {f : BitField} {c n : Nat} (h : staticRow i = some (f, c, n)) (s : State) :
    exec i s = sendFields [{ v := bitrev c n, n := n }] s := by
  cases i with
  | staticLl0To143 | staticLl144To255 | staticLl256To279 | staticLl280To287 | staticDist =>
    obtain ⟨-, rfl, rfl⟩ : _ = f ∧ _ = c ∧ _ = n := by
      simpa only [staticRow, Option.some.injEq, Prod.mk.injEq] using h
    rfl
  | _ => exact nomatch h

/-- A well-formed static row's code is the one of the symbol it stands for. -/
theorem staticRow_field {i : Instr} {f : BitField} {c n : Nat} (hi : i.wf = true) (h : staticRow i = some (f, c, n)) :
    f = { v := bitrev c n, n := n } ∧ n ≤ 9 := by
  have lit {sym c n : Nat} (hmsb : staticLitMsb sym = (c, n)) : staticLit sym = { v := bitrev c n, n := n } := by
    rw [staticLit, hmsb]
  cases i with
  | staticLl0To143 | staticLl144To255 | staticLl256To279 | staticLl280To287 =>
    obtain ⟨rfl, rfl, rfl⟩ : _ = f ∧ _ = c ∧ _ = n := by
      simpa only [staticRow, Option.some.injEq, Prod.mk.injEq] using h
    simp only [Instr.wf, decide_eq_true_eq] at hi
    refine ⟨lit ?_, by decide⟩
    unfold staticLitMsb
    split_ifs <;> simp only [Prod.mk.injEq, and_true] <;> omega
  | staticDist x =>
    cases h
    exact ⟨rfl, by decide⟩
  | _ => exact nomatch h

/-- Settles O42: the code a static row sends is the reversed one of its symbol, so it goes out the other way round. -/
theorem staticRowsSendTheirCode : Obligations.StaticRowsSendTheirCode := by
  unfold Obligations.StaticRowsSendTheirCode
  intro s i f c n hp hwf hi hrow hroom
  obtain ⟨rfl, hn⟩ := staticRow_field hi hrow
  have hbits : BitField.bits { v := bitrev c n, n := n } = (bits c n).reverse := bits_bitrev c n
  refine ⟨hbits, ?_⟩
  rw [exec_staticRow hrow]
  refine sendFrom_sends hp ?_
  have hfit : ∀ f ∈ [{ v := bitrev c n, n := n }], BitField.fits f = true := by simpa using bitrev_fits c (by omega)
  have hlen := fieldBits_length_le hfit
  rw [List.length_singleton] at hlen
  have hone := putFields_writes hwf hfit (by omega)
  rwa [fieldBits_cons, fieldBits_nil, List.append_nil, hbits] at hone

/-! ### The queue's tokens (30_encoding.md R86, R87, R90) -/

theorem lenFields_fit {codes : BlockCodes} (hc : codes.Fit) {l : Nat} (hlow : 3 ≤ l) (hhigh : l ≤ 258) :
    ∀ f ∈ lenFields codes (lenCode l) (l - entry lBase (lenCode l)), f.fits = true := by
  obtain ⟨-, -, hfit, -⟩ := lengthSymbolCoversLength l hlow hhigh
  have hextra : entry lExtra (lenCode l) ≤ 16 := entry_le (by decide) _
  exact List.forall_mem_cons.2 ⟨hc.1 _, extraBits_fit hextra hfit⟩

theorem distFields_fit {codes : BlockCodes} (hc : codes.Fit) {d : Nat} (hlow : 1 ≤ d) (hhigh : d ≤ 32768) :
    ∀ f ∈ distFields codes (distCode d) (d - entry dBase (distCode d)), f.fits = true := by
  obtain ⟨-, hfit, -⟩ := distCode_spec hlow hhigh
  have hextra : entry dExtra (distCode d) ≤ 16 := entry_le (by decide) _
  exact List.forall_mem_cons.2 ⟨hc.2 _, extraBits_fit hextra hfit⟩

/-- A token the Match Finder can have made is sent in fields `PUT_BITS` admits. -/
theorem tokenFields_fit {codes : BlockCodes} (hcodes : codes.Fit) {c : Params} (hc : c.legal) {e : QEntry}
    (he : e.wf c) : ∀ f ∈ tokenFields codes e.token, f.fits = true := by
  obtain ⟨⟨-, hw⟩, -, -, -, hm⟩ := hc
  unfold QEntry.token
  split
  · simpa [tokenFields] using hcodes.1 _
  · next hd =>
    obtain ⟨hlow, hhigh, hdist⟩ := he.2 hd
    exact List.forall_mem_append.2 ⟨lenFields_fit hcodes hlow (hhigh.trans hm),
      distFields_fit hcodes (QEntry.d_ne_zero.1 hd) (hdist.trans hw)⟩

theorem tokenFields_length_le (codes : BlockCodes) (k : Token) : (tokenFields codes k).length ≤ 4 := by
  cases k with
  | lit b => simp [tokenFields]
  | ref d l =>
    have hl := extraBits_length_le (l - entry lBase (lenCode l)) (entry lExtra (lenCode l))
    have hd := extraBits_length_le (d - entry dBase (distCode d)) (entry dExtra (distCode d))
    simp only [tokenFields, lenFields, distFields, List.length_append, List.length_cons]
    omega

theorem fieldBits_flatMap {α : Type} (l : List α) (g : α → List BitField) :
    fieldBits (l.flatMap g) = l.flatMap fun a => fieldBits (g a) := List.flatMap_assoc

theorem length_flatMap_le {α β : Type} {l : List α} {g : α → List β} {b : Nat}
    (h : ∀ a ∈ l, (g a).length ≤ b) : (l.flatMap g).length ≤ b * l.length := by
  have hsum := List.sum_le_card_nsmul (l.map fun a => (g a).length) b (by simpa using h)
  simpa [List.length_flatMap, Nat.mul_comm] using hsum

section
variable {s : State} {codes : BlockCodes} (hcodes : codes.Fit) (hc : s.params.legal) (hq : ∀ e ∈ s.q, e.wf s.params)
include hcodes hc hq

theorem queueFields_fit : ∀ f ∈ s.queueFields codes, f.fits = true := by
  intro f hf
  obtain ⟨e, he, hf⟩ := List.mem_flatMap.1 hf
  exact tokenFields_fit hcodes hc (hq e he) f hf

theorem queueFields_length_le : (fieldBits (s.queueFields codes)).length ≤ 64 * s.qn := by
  have hbits := fieldBits_length_le (queueFields_fit hcodes hc hq)
  have hfields : (s.queueFields codes).length ≤ 4 * s.q.length :=
    length_flatMap_le fun e _ => tokenFields_length_le codes e.token
  unfold State.qn
  omega

end

/-! ### The block rows (30_encoding.md R85, R92, R95, R96) -/

theorem headerField_fits (kind : BlockKind) (final : Bool) : (headerField kind final).fits = true := by
  cases kind <;> cases final <;> rfl

/-! #### Static blocks -/

theorem staticFields_fit {s : State} (hc : s.params.legal) (hq : ∀ e ∈ s.q, e.wf s.params) (final : Bool) :
    ∀ f ∈ s.staticFields final, f.fits = true := by
  simp only [State.staticFields, List.cons_append, List.forall_mem_cons, List.forall_mem_append]
  exact ⟨headerField_fits _ _, queueFields_fit fixed_fit hc hq, by simpa [eobFields] using fixed_fit.1 256⟩

/-- The layout of a static block (30_encoding.md R95). -/
theorem fieldBits_staticFields (s : State) (final : Bool) : fieldBits (s.staticFields final) =
    bits (final.toNat + 2) 3 ++ (fieldBits (s.queueFields .fixed) ++ bits 0 7) := by
  simp only [State.staticFields, List.cons_append, fieldBits_cons, fieldBits_append]
  rfl

/-- Settles O44: the header, the queue's tokens and the end-of-block code are fields `PUT_BITS` admits. -/
theorem staticRowsWriteStaticBlock : Obligations.StaticRowsWriteStaticBlock := by
  unfold Obligations.StaticRowsWriteStaticBlock
  intro s final hp hwf hc hq hroom
  have hexec : exec (blockRow .fixed final) s = sendFrom (emitStatic final) s := by cases final <;> rfl
  have hqueue := queueFields_length_le fixed_fit hc hq
  have hwrites := putFields_writes hwf (staticFields_fit hc hq final) (by
    simp only [fieldBits_staticFields, List.length_append, bits_length]
    omega)
  rw [fieldBits_staticFields, State.queueFields, fieldBits_flatMap] at hwrites
  rw [hexec]
  simpa only [Sends, List.append_assoc] using sendFrom_sends (emit := emitStatic final) hp hwrites

/-! #### Stored blocks -/

/-- `LEN` and its complement fill four bytes, so a byte boundary stays one. -/
theorem storedLength_writes {z : Serializer} (hz : z.wf) {n : Nat} (hn : n ≤ 65535) (hroom : z.bitpos + 32 < 2 ^ 64) :
    Writes z (bits n 16 ++ bits (65535 - n) 16) (putFields [{ v := n, n := 16 }, { v := 65535 - n, n := 16 }] z) := by
  have hfit : ∀ f ∈ [{ v := n, n := 16 }, { v := 65535 - n, n := 16 }], BitField.fits f = true := by
    simp only [List.forall_mem_cons, fits_iff]
    exact ⟨by omega, by omega, by simp⟩
  simpa [BitField.bits] using putFields_writes hz hfit (by simpa [BitField.bits] using hroom)

theorem nb_eq_zero_iff {z : Serializer} (hz : z.wf) : z.nb = 0 ↔ z.bitpos % 8 = 0 := by
  rw [← hz.1, ← BitVec.toNat_inj]
  rfl

/-- The layout of a stored block (30_encoding.md R92). -/
theorem emitStored_writes {s : State} (final : Bool) (hwf : s.ser.wf) (hlen : s.blkLen ≤ 65535)
    (hbytes : s.blockBytes.length = s.blkLen) (hroom : s.ser.bitpos + 42 + 8 * s.blkLen < 2 ^ 64) :
    Writes s.ser (bits final.toNat 3 ++ (List.replicate ((13 - s.ser.nb.toNat) % 8) false ++
      ((bits s.blkLen 16 ++ bits (65535 - s.blkLen) 16) ++ byteBits s.blockBytes))) (emitStored final s) := by
  have hheader : Writes s.ser (bits final.toNat 3) (putBits (headerField .stored final) s.ser) :=
    putBits_writes hwf (headerField_fits .stored final) (by dsimp only [headerField]; omega)
  refine hheader.bind hwf fun z _ hz hzpos => ?_
  rw [bits_length] at hzpos
  have hpad : (13 - s.ser.nb.toNat) % 8 = (8 - z.nb.toNat) % 8 := by
    have hnb := hwf.1
    have hznb := hz.1
    omega
  rw [hpad]
  refine (align_writes hz (by omega)).bind hz fun y hy hywf hypos => ?_
  rw [List.length_replicate] at hypos
  refine (storedLength_writes hywf hlen (by omega)).bind hywf fun x _ hx hxpos => ?_
  rw [List.length_append, bits_length, bits_length] at hxpos
  have hboundary := (nb_eq_zero_iff hywf).1 (align_nb hy)
  exact putBytes_writes hx ((nb_eq_zero_iff hx).2 (by omega)) (by omega)

/-- Settles O43: `emitStored_writes`; the window holds the whole block. -/
theorem storedRowsWriteStoredBlock : Obligations.StoredRowsWriteStoredBlock := by
  unfold Obligations.StoredRowsWriteStoredBlock
  intro s final hp hwf hstart hend hlen hroom
  have hexec : exec (blockRow .stored final) s = sendFrom (emitStored final) s := by cases final <;> rfl
  have hbytes : s.blockBytes.length = s.blkLen := by
    simp only [State.blockBytes, State.blkLen, State.totalIn, List.length_take, List.length_drop] at *
    omega
  rw [hexec]
  simpa only [Sends, State.blockBytes, List.append_assoc] using
    sendFrom_sends hp (emitStored_writes final hwf hlen hbytes hroom)

/-! #### Dynamic blocks -/

theorem clSym_fields_fit {bl : CodeTable} (hbl : ∀ c, (bl.field c).fits = true) {c : ClSym} (hc : c.Fits) :
    ∀ f ∈ c.fields bl, f.fits = true :=
  List.forall_mem_cons.2 ⟨hbl _, extraBits_fit (hc.1.trans (by decide)) hc.2⟩

theorem clSym_fields_length_le (bl : CodeTable) (c : ClSym) : (c.fields bl).length ≤ 2 :=
  Nat.succ_le_succ (extraBits_length_le c.ev c.eb)

/-- `SEQ` has no more symbols than the two tables have lengths. -/
theorem lengthSequence_length_le (l d : Built) :
    (lengthSequence l d).length ≤ l.table.len.length + d.table.len.length := by
  have hl := (rle_length_le (l.table.len.take l.num)).trans (List.length_take_le' ..)
  have hd := (rle_length_le (d.table.len.take d.num)).trans (List.length_take_le' ..)
  rw [lengthSequence, List.length_append]
  omega

theorem lengthSequence_fits (l d : Built) : ∀ c ∈ lengthSequence l d, c.Fits :=
  List.forall_mem_append.2 ⟨rle_fits _, rle_fits _⟩

theorem hclenOf_le (bllen : List Nat) : hclenOf bllen ≤ 19 := numCodes_le _ _

/-- The tables of a dynamic block are fields `PUT_BITS` admits: 3 counts, at most 19 lengths, and at most 2 fields for
each of at most 316 code-length symbols. -/
theorem tableFields_fit {lfreq dfreq : List Word} {blOf : List ClSym → List Word} {z : Sizing}
    (hl : lfreq.length = 286) (hd : dfreq.length = 30) (h : sizeBlock lfreq dfreq blOf = .ok z) :
    (∀ f ∈ z.tableFields, f.fits = true) ∧ z.tableFields.length ≤ 3 + 19 + 2 * 316 := by
  obtain ⟨hlit, hdist, hseq, -, hbl, hhclen⟩ := sizeBlock_ok h
  obtain ⟨-, hllen, hlnum⟩ := buildCode_ok hlit
  obtain ⟨-, hdlen, hdnum⟩ := buildCode_ok hdist
  obtain ⟨hwithin, -, -⟩ := buildCode_ok hbl
  have hllen : z.l.table.len.length = 286 := by rw [hllen, counts, List.length_map, hl]
  have hdlen : z.d.table.len.length = 30 := by rw [hdlen, counts, List.length_map, hd]
  have hlnum : z.l.num ≤ 286 := hlnum ▸ (numCodes_le _ _).trans (by omega)
  have hdnum : z.d.num ≤ 30 := hdnum ▸ (numCodes_le _ _).trans (by omega)
  have hhclen : z.hclen ≤ 19 := hhclen ▸ hclenOf_le _
  have hseqLen : z.seq.length ≤ 316 := hseq ▸ (lengthSequence_length_le z.l z.d).trans (by omega)
  constructor
  · simp only [Sizing.tableFields, List.forall_mem_append]
    refine ⟨⟨?_, ?_⟩, ?_⟩
    · simp only [List.forall_mem_cons, fits_iff]
      exact ⟨by omega, by omega, by omega, by simp⟩
    · intro f hf
      obtain ⟨c, -, rfl⟩ := List.mem_map.1 hf
      exact (fits_iff _).2 ⟨by dsimp only; omega, Nat.lt_succ_of_le (hwithin.1 c)⟩
    · intro f hf
      obtain ⟨c, hc, hf⟩ := List.mem_flatMap.1 hf
      exact clSym_fields_fit (hwithin.field_fits (by decide)) (lengthSequence_fits z.l z.d c (hseq ▸ hc)) f hf
  · have hcodes : (z.seq.flatMap (ClSym.fields z.bl.table)).length ≤ 2 * z.seq.length :=
      length_flatMap_le fun c _ => clSym_fields_length_le z.bl.table c
    simp only [Sizing.tableFields, List.length_append, List.length_map, List.length_take,
      List.length_cons, List.length_nil]
    omega

theorem fieldBits_map {α : Type} (l : List α) (g : α → BitField) :
    fieldBits (l.map g) = l.flatMap fun a => (g a).bits := List.flatMap_map ..

/-- The layout of a dynamic block's tables (30_encoding.md R96). -/
theorem fieldBits_tableFields (z : Sizing) : fieldBits z.tableFields =
    bits (z.l.num - 257) 5 ++ (bits (z.d.num - 1) 5 ++ (bits (z.hclen - 4) 4 ++
      (((blOrder.take z.hclen).flatMap fun c => bits (entry z.bl.table.len c) 3) ++
        z.seq.flatMap fun c => (z.bl.table.field c.sym).bits ++ bits c.ev c.eb))) := by
  simp only [Sizing.tableFields, ClSym.fields, fieldBits_append, fieldBits_cons, fieldBits_nil, fieldBits_map,
    fieldBits_flatMap, fieldBits_extraBits, List.append_assoc, List.nil_append]
  rfl

/-- The layout of a dynamic block (30_encoding.md R96). -/
theorem fieldBits_dynamicFields (s : State) (final : Bool) (z : Sizing) : fieldBits (s.dynamicFields final z) =
    bits (final.toNat + 4) 3 ++
      (fieldBits z.tableFields ++ (fieldBits (s.queueFields z.codes) ++ fieldBits (eobFields z.codes))) := by
  simp only [State.dynamicFields, List.cons_append, fieldBits_cons, fieldBits_append, List.append_assoc]
  rfl

theorem emitDynamic_writes {s : State} {z : Sizing} (final : Bool) (hp : s.phase = .emitting) (hwf : s.ser.wf)
    (hc : s.params.legal) (hq : ∀ e ∈ s.q, e.wf s.params) (hl : s.lfreq.length = 286) (hd : s.dfreq.length = 30)
    (hz : s.sizing = .ok z) (hroom : s.ser.bitpos + 16384 + 64 * s.qn < 2 ^ 64) :
    Writes s.ser (fieldBits (s.dynamicFields final z)) (emitDynamic final z s) := by
  have hsize := (sizing_of_emitting hp).symm.trans hz
  have hcodes := built_fit hsize
  obtain ⟨htables, htableLen⟩ := tableFields_fit hl hd hsize
  have heob : ∀ f ∈ eobFields z.codes, f.fits = true := by simpa [eobFields] using hcodes.1 256
  have hfit : ∀ f ∈ s.dynamicFields final z, f.fits = true := by
    simp only [State.dynamicFields, List.cons_append, List.forall_mem_cons, List.forall_mem_append]
    exact ⟨headerField_fits _ _, ⟨htables, queueFields_fit hcodes hc hq⟩, heob⟩
  refine putFields_writes hwf hfit ?_
  have htableBits := fieldBits_length_le htables
  have hqueueBits := queueFields_length_le hcodes hc hq
  have heobBits : _ ≤ 16 * 1 := fieldBits_length_le heob
  simp only [fieldBits_dynamicFields, List.length_append, bits_length]
  omega

/-- Settles O45: `emitDynamic_writes`, with the layout of the block and of its tables written out. -/
theorem dynamicRowsWriteDynamicBlock : Obligations.DynamicRowsWriteDynamicBlock := by
  unfold Obligations.DynamicRowsWriteDynamicBlock
  intro s z final hp hwf hc hq hl hd _ hz hroom
  have hexec : exec (blockRow .dynamic final) s = sendSized (emitDynamic final) s := by cases final <;> rfl
  have heob : fieldBits (eobFields z.codes) = (z.l.table.field 256).bits := List.append_nil _
  obtain ⟨-, -, hseq, -⟩ := sizeBlock_ok ((sizing_of_emitting hp).symm.trans hz)
  have hwrites := emitDynamic_writes final hp hwf hc hq hl hd hz hroom
  rw [fieldBits_dynamicFields, fieldBits_tableFields, State.queueFields, fieldBits_flatMap, heob, hseq,
    lengthSequence] at hwrites
  rw [hexec]
  simpa only [Sends, Sizing.codes, List.append_assoc] using sendSized_sends hp hz hwrites

end Sys2Proof.Machine

/-! PROOFS of the family 40_match_finder.md: what FIND reports (R123), that a token stands for the next bytes of the
input (R124, R128), what TALLY does (R126), the end of STEP's loop (R121, R122), and that the host's cuts of the input
are not observable (R127). -/

namespace Sys2Proof.Machine

open Claims

/-! ### CanFind (40_match_finder.md R122) -/

theorem canFind_iff (s : State) : s.canFind = true ↔
    s.phase = .accumulating ∧ 1 ≤ s.la ∧ (s.params.maxMatch ≤ s.la ∨ (s.inLen = 0 ∧ s.flags ≠ 0)) := by
  simp only [State.canFind, Bool.and_eq_true, Bool.or_eq_true, decide_eq_true_eq, and_assoc]

theorem not_canFind_of_la {s : State} (h : s.la = 0) : s.canFind = false := by
  simp [State.canFind, h]

theorem matchLimit_le_la (s : State) : s.matchLimit ≤ s.la := min_le_left ..

/-! ### The longest match, then the nearest (40_match_finder.md R123) -/

theorem commonPrefix_agree {lim : Nat} {as bs : List Byte} {i : Nat} (h : i < commonPrefix lim as bs) :
    as[i]? = bs[i]? := by
  induction lim generalizing as bs i with
  | zero => simp [commonPrefix] at h
  | succ lim ih =>
    cases as with
    | nil => simp [commonPrefix] at h
    | cons a as =>
      cases bs with
      | nil => simp [commonPrefix] at h
      | cons b bs =>
        rw [commonPrefix] at h
        split at h
        · next hab =>
          cases i with
          | zero => simp [hab]
          | succ i => simpa using ih (Nat.lt_of_succ_lt_succ h)
        · exact absurd h (Nat.not_lt_zero i)

/-- Where two sequences agree for fewer bytes than the limit, and neither ends before it, the next bytes differ. -/
theorem commonPrefix_differ {lim : Nat} {as bs : List Byte} (ha : lim ≤ as.length) (hb : lim ≤ bs.length)
    (h : commonPrefix lim as bs < lim) : as[commonPrefix lim as bs]? ≠ bs[commonPrefix lim as bs]? := by
  induction lim generalizing as bs with
  | zero => exact absurd h (Nat.not_lt_zero _)
  | succ lim ih =>
    cases as with
    | nil => simp at ha
    | cons a as =>
      cases bs with
      | nil => simp at hb
      | cons b bs =>
        rw [commonPrefix] at h ⊢
        split at h
        · next hab =>
          rw [if_pos hab]
          simpa using ih (Nat.le_of_succ_le_succ ha) (Nat.le_of_succ_le_succ hb) (Nat.lt_of_succ_lt_succ h)
        · next hab => simpa [if_neg hab] using hab

/-- `mlen(d)` by positions, at a distance that stays in the window. -/
theorem isMatchLength_matchLength {s : State} {d : Nat} (hd : d ≤ s.p) : s.isMatchLength d (s.matchLength d) := by
  have hla : s.matchLimit ≤ s.window.length - s.p := matchLimit_le_la s
  have hpos (i : Nat) : s.p - d + i = s.p + i - d := by omega
  refine ⟨commonPrefix_le .., fun i hi => ?_, fun hk => ?_⟩
  · have := commonPrefix_agree hi
    rw [List.getElem?_drop, List.getElem?_drop, hpos] at this
    exact this.symm
  · have := commonPrefix_differ (as := s.window.drop (s.p - d)) (bs := s.window.drop s.p)
      (by rw [List.length_drop]; omega) (by rw [List.length_drop]; omega) hk
    rw [List.getElem?_drop, List.getElem?_drop, hpos] at this
    exact this.symm

theorem isMatchLength_unique {s : State} {d k k' : Nat} (h : s.isMatchLength d k) (h' : s.isMatchLength d k') :
    k = k' := by
  obtain ⟨hlim, hagree, hstop⟩ := h
  obtain ⟨hlim', hagree', hstop'⟩ := h'
  rcases Nat.lt_trichotomy k k' with hlt | heq | hgt
  · exact absurd (hagree' k hlt) (hstop (by omega))
  · exact heq
  · exact absurd (hagree k' hgt) (hstop' (by omega))

/-- `r` is `best`, with every candidate up to distance `d` shorter, or the longest of those candidates, the nearest of
the longest, and no shorter than `best`. -/
def LongestThenNearest (len : Nat → Nat) (d : Nat) (best r : Nat × Nat) : Prop :=
  (r = best ∧ ∀ d', 1 ≤ d' → d' ≤ d → len d' < best.2) ∨
  (1 ≤ r.1 ∧ r.1 ≤ d ∧ r.2 = len r.1 ∧ best.2 ≤ r.2 ∧ ∀ d', 1 ≤ d' → d' ≤ d → len d' ≤ r.2 ∧ (len d' = r.2 → r.1 ≤ d'))

theorem le_nearerIfAsLong (best cand : Nat × Nat) :
    best.2 ≤ (nearerIfAsLong best cand).2 ∧ cand.2 ≤ (nearerIfAsLong best cand).2 := by
  unfold nearerIfAsLong
  split
  · next hlong => exact ⟨hlong, le_rfl⟩
  · next hshort => exact ⟨le_rfl, (Nat.lt_of_not_le hshort).le⟩

/-- One candidate more, the farthest one and so the first the search meets. -/
theorem longestThenNearest_succ {len : Nat → Nat} {d : Nat} {best r : Nat × Nat}
    (h : LongestThenNearest len d (nearerIfAsLong best (d + 1, len (d + 1))) r) :
    LongestThenNearest len (d + 1) best r := by
  have hlast {d' : Nat} (hd' : d' ≤ d + 1) : d' ≤ d ∨ d' = d + 1 := Nat.le_succ_iff.1 hd'
  obtain ⟨hbest, hcand⟩ := le_nearerIfAsLong best (d + 1, len (d + 1))
  rcases h with ⟨rfl, hshort⟩ | ⟨hlow, hhigh, hlen, hlong, hall⟩
  · unfold nearerIfAsLong at hshort ⊢
    split at hshort
    · next hlong =>
      rw [if_pos hlong]
      refine .inr ⟨Nat.succ_pos d, le_rfl, rfl, hlong, fun d' hd₁ hd' => ?_⟩
      rcases hlast hd' with hd' | rfl
      · have := hshort d' hd₁ hd'
        exact ⟨this.le, fun heq => absurd heq this.ne⟩
      · exact ⟨le_rfl, fun _ => le_rfl⟩
    · next hshorter =>
      rw [if_neg hshorter]
      refine .inl ⟨rfl, fun d' hd₁ hd' => ?_⟩
      rcases hlast hd' with hd' | rfl
      · exact hshort d' hd₁ hd'
      · exact Nat.lt_of_not_le hshorter
  · refine .inr ⟨hlow, hhigh.trans (Nat.le_succ d), hlen, hbest.trans hlong, fun d' hd₁ hd' => ?_⟩
    rcases hlast hd' with hd' | rfl
    · exact hall d' hd₁ hd'
    · exact ⟨hcand.trans hlong, fun _ => hhigh.trans (Nat.le_succ d)⟩

theorem searchDown_longestThenNearest {s : State} {d : Nat} (hd : d ≤ s.p) (best : Nat × Nat) :
    LongestThenNearest s.matchLength d best
      (searchDown s.matchLimit (s.window.drop s.p) d (s.window.drop (s.p - d)) best) := by
  induction d generalizing best with
  | zero => exact .inl ⟨rfl, fun d' hlow hhigh => absurd hlow (by omega)⟩
  | succ d ih =>
    have hnext : (s.window.drop (s.p - (d + 1))).tail = s.window.drop (s.p - d) := by
      rw [List.tail_drop]
      congr 1
      omega
    rw [searchDown, hnext]
    exact longestThenNearest_succ (ih (by omega) _)

/-- What `best_d` and `best_len` are: the longest match over the distances of the window, the nearest of the longest;
with no distance to search `best_len` is 0. -/
theorem bestMatch_longestThenNearest (s : State) :
    LongestThenNearest s.matchLength (min s.p s.params.wsize) (0, 0) s.bestMatch :=
  searchDown_longestThenNearest (min_le_left ..) _

theorem window_at_p {s : State} (h : 1 ≤ s.la) : s.window[s.p]? = some (s.window.getD s.p 0) := by
  have hp : s.p < s.window.length := by
    simp only [State.la, State.totalIn] at h
    omega
  simp [List.getD_eq_getElem?_getD, List.getElem?_eq_getElem hp]

/-- Settles O18: `bestMatch_longestThenNearest`, with `mlen` said by positions. -/
theorem findIsLongestThenNearest : Obligations.FindIsLongestThenNearest := by
  unfold Obligations.FindIsLongestThenNearest
  intro s hcan
  obtain ⟨-, hla, -⟩ := (canFind_iff s).1 hcan
  have hlen {d l : Nat} (hd : d ≤ min s.p s.params.wsize) (hl : s.isMatchLength d l) : l = s.matchLength d :=
    isMatchLength_unique hl (isMatchLength_matchLength (hd.trans (min_le_left ..)))
  by_cases hmin : Config.minMatch ≤ s.bestMatch.2
  · left
    refine ⟨s.bestMatch.1, s.bestMatch.2, if_pos hmin, hmin, ?_⟩
    rcases bestMatch_longestThenNearest s with ⟨hnone, -⟩ | ⟨hlow, hhigh, hbest, -, hall⟩
    · rw [hnone] at hmin
      exact absurd hmin (by decide)
    · refine ⟨hlow, hhigh, ?_, fun d l hd₁ hd hl => ?_⟩
      · exact hbest ▸ isMatchLength_matchLength (hhigh.trans (min_le_left ..))
      · exact hlen hd hl ▸ hall d hd₁ hd
  · right
    refine ⟨_, if_neg hmin, window_at_p hla, fun d l hd₁ hd hl => ?_⟩
    rw [hlen hd hl]
    have hshort : s.bestMatch.2 < 3 := Nat.lt_of_not_le hmin
    rcases bestMatch_longestThenNearest s with ⟨-, hnone⟩ | ⟨-, -, -, -, hall⟩
    · exact absurd (hnone d hd₁ hd) (Nat.not_lt_zero _)
    · exact (hall d hd₁ hd).1.trans_lt hshort

/-! ### A token stands for the next bytes (40_match_finder.md R124, R128) -/

theorem take_append_next {bs : List Byte} {p : Nat} {b : Byte} (h : bs[p]? = some b) :
    bs.take p ++ [b] = bs.take (p + 1) := by
  rw [List.take_add_one, h, Option.toList_some]

/-- Copying from `d` back reproduces the window where it agrees with itself `d` back, also where source and copy
overlap. -/
theorem copyBytes_take {bs : List Byte} {d l p : Nat} (hd₁ : 1 ≤ d) (hd : d ≤ p) (hl : p + l ≤ bs.length)
    (hagree : ∀ i < l, bs[p + i]? = bs[p + i - d]?) : copyBytes d l (bs.take p) = bs.take (p + l) := by
  induction l generalizing p with
  | zero => rfl
  | succ l ih =>
    have hnext : bs[p]? = some ((bs.take p).getD ((bs.take p).length - d) 0) := by
      have hlen : (bs.take p).length = p := List.length_take_of_le (by omega)
      have hp : bs[p]? = bs[p - d]? := hagree 0 (Nat.succ_pos l)
      rw [hp, hlen, List.getD_eq_getElem?_getD, List.getElem?_take_of_lt (by omega),
        List.getElem?_eq_getElem (by omega), Option.getD_some]
    rw [copyBytes, take_append_next hnext, ih (by omega) (by omega)]
    · congr 1
      omega
    · intro i hi
      have := hagree (i + 1) (by omega)
      rwa [show p + (i + 1) = p + 1 + i by omega] at this

/-- Settles O19: a literal is the byte at `P`; a match agrees with the bytes `d` back by `findIsLongestThenNearest`. -/
theorem tokenReproducesInput : Obligations.TokenReproducesInput := by
  unfold Obligations.TokenReproducesInput
  intro s hcan
  obtain ⟨-, hla, -⟩ := (canFind_iff s).1 hcan
  have hend : s.p + (find s).span ≤ s.totalIn := by
    have := find_span_le hcan
    simp only [State.la] at *
    omega
  rcases findIsLongestThenNearest s hcan with ⟨d, l, hfind, hl₃, hd₁, hd, ⟨-, hagree, -⟩, -⟩ | ⟨b, hfind, hb, -⟩
  all_goals rw [hfind] at hend ⊢
  · exact ⟨(by decide : 1 ≤ 3).trans hl₃, hend, copyBytes_take hd₁ (hd.trans (min_le_left ..)) hend hagree⟩
  · exact ⟨le_rfl, hend, take_append_next hb⟩

/-! ### TALLY (40_match_finder.md R126) -/

theorem tally_of_room {s : State} (h : s.qn < s.params.qcap) (k : Token) :
    tally k s = if s.qn + 1 = s.params.qcap then closeBlock false (record k s) else .ok (record k s) := by
  simp [tally, h]

/-- Settles O21: `tally_of_room` for each kind of token. -/
theorem tallyCountsQueuesAndCloses : Obligations.TallyCountsQueuesAndCloses := by
  unfold Obligations.TallyCountsQueuesAndCloses
  exact fun s h => ⟨fun b => tally_of_room h (.lit b), fun d l => tally_of_room h (.ref d l)⟩

/-! ### Where STEP's loop has nothing left to do (40_match_finder.md R121, R122) -/

theorem fillEnabled_iff (s : State) :
    s.fillEnabled = true ↔ s.phase = .accumulating ∧ s.inLen ≠ 0 ∧ s.la < s.params.laCap := by
  simp only [State.fillEnabled, Bool.and_eq_true, decide_eq_true_eq, and_assoc]

/-- Neither FILL nor FIND is enabled (44_host_commands.md R205 line 11). -/
def State.Quiet (s : State) : Prop := s.fillEnabled = false ∧ s.canFind = false

theorem matchLoop_of_not_canFind {s : State} (h : s.canFind = false) (fuel : Nat) :
    matchLoop fuel s = .ok (s, false) := by
  cases fuel with
  | zero => rfl
  | succ fuel => simp [matchLoop, h]

theorem quiesce_of_quiet {s : State} (h : s.Quiet) (fuel : Nat) : quiesce fuel s = .ok s := by
  cases fuel with
  | zero => rfl
  | succ fuel =>
    have hfill : fillIfEnabled s = .ok s := by simp [fillIfEnabled, h.1]
    simp [quiesce, hfill, Except.bind, matchLoop_of_not_canFind h.2, h.1]

/-- FILL takes a range whole where the lookahead has room for it. -/
theorem fill_whole {s : State} (hroom : s.inLen.toNat ≤ s.params.laCap - s.la)
    (hbound : s.totalIn + s.inLen.toNat < Config.maxTotalIn) :
    fill s = .ok { s with
      window := s.window ++ s.inputBytes s.inLen.toNat
      cksum := (s.inputBytes s.inLen.toNat).foldl Config.ckFold s.cksum
      inOff := s.inOff + s.inLen
      inLen := 0 } := by
  have hcount : s.fillCount = s.inLen.toNat := min_eq_left hroom
  simp [fill, hcount, hbound]

/-- One pass of STEP's loop that only fills. -/
theorem quiesce_of_fill {s u : State} (hen : s.fillEnabled = true) (hfill : fill s = .ok u)
    (hquiet : u.Quiet) (fuel : Nat) :
    quiesce (fuel + 1) s = .ok { u with progress := true } := by
  have hmatch : matchLoop u.la u = .ok (u, false) := matchLoop_of_not_canFind hquiet.2 _
  have hrest := quiesce_of_quiet (s := { u with progress := true }) hquiet fuel
  simp [quiesce, fillIfEnabled, hen, hfill, Except.bind, hmatch, hrest]

/-- Settles O10: the range fits the lookahead whole, so one FILL takes it; then there is too little for FIND. -/
theorem stepWithoutFlagOnlyConsumesShortRange : Obligations.StepWithoutFlagOnlyConsumesShortRange := by
  unfold Obligations.StepWithoutFlagOnlyConsumesShortRange
  intro s hp hin hshort hpos hcap hbound
  have hen : (s.beginStep 0).fillEnabled = true :=
    (fillEnabled_iff _).2 ⟨hp, hin, by rw [beginStep_la, beginStep_params]; omega⟩
  have hfill := fill_whole (s := s.beginStep 0) (by rw [beginStep_la, beginStep_inLen, beginStep_params]; omega) hbound
  have hrun := quiesce_of_fill hen hfill ⟨?_, ?_⟩ (2 * s.inLen.toNat + s.la)
  · have hdone : (s.beginStep 0).phase ≠ .done := by simp [hp]
    have hfault : s.phase ≠ .fault := by simp [hp]
    have hfuel : (s.beginStep 0).stepFuel = 2 * s.inLen.toNat + s.la + 1 := rfl
    change unlessFaulted s (finish (runStep 0 (s.beginStep 0))) = _
    rw [unlessFaulted_run _ hfault, runStep, if_neg hdone, hfuel, hrun]
    rfl
  · simp [State.fillEnabled]
  · have hla : s.totalIn + s.inLen.toNat - s.p < s.params.maxMatch := by
      simp only [State.la] at hshort
      omega
    simpa [State.canFind, State.la, State.totalIn] using fun _ _ => hla

/-! ### What a run ends in (44_host_commands.md R205)

Two runs are compared by the states they end well in: how a run that does not end well stops is nothing here. -/

section
variable {ε α β : Type} {r : Except ε α}

@[simp] theorem toOption_ok (a : α) : (Except.ok a : Except ε α).toOption = some a := rfl
@[simp] theorem toOption_error (e : ε) : (Except.error e : Except ε α).toOption = none := rfl

theorem toOption_eq_some {a : α} : r.toOption = some a ↔ r = .ok a := by
  cases r <;> simp

theorem toOption_bind (f : α → Except ε β) : (r.bind f).toOption = r.toOption.bind fun a => (f a).toOption := by
  cases r <;> rfl

/-- A run in two parts ends well where each part does. -/
theorem bind_ok {f : α → Except ε β} {b : β} (h : r.bind f = .ok b) : ∃ a, r = .ok a ∧ f a = .ok b := by
  simpa only [← toOption_eq_some, toOption_bind, Option.bind_eq_some_iff] using h

end

theorem Ends.of_ok {α : Type} {T : FCode → State → Prop} {Q : α → Prop} {r : Except Stop α} {a : α} (h : Ends T Q r)
    (hr : r = .ok a) : Q a := by
  subst hr
  exact h

theorem ends_of_ok {α : Type} {Q : α → Prop} {r : Except Stop α} (h : ∀ a, r = .ok a → Q a) :
    Ends (fun _ _ => True) Q r := by
  rcases r with (⟨code, info, s⟩ | stuck | refused) | a
  · trivial
  · trivial
  · trivial
  · exact h a rfl

/-! ### What FILL and a token do to the input (40_match_finder.md R121, R125, R126) -/

/-- The consumed bytes and their checksum, the pending range, the flags and the parameters. -/
def State.inputSide (s : State) : List Byte × Word × Word × Word × BitVec 2 × Params :=
  (s.window, s.cksum, s.inOff, s.inLen, s.flags, s.params)

theorem closeBlock_inputSide {final : Bool} {s t : State} (h : closeBlock final s = .ok t) :
    t.inputSide = s.inputSide ∧ t.p = s.p := by
  obtain ⟨-, z, w, -, -, rfl⟩ := closeBlock_eq_ok h
  exact ⟨rfl, rfl⟩

/-- Lines 7 and 8 of STEP: FIND, ADVANCE, TALLY (44_host_commands.md R205). -/
def tokenStep (s : State) : Except Stop State := tally (find s) (advance (find s) s)

theorem tokenStep_inputSide {s t : State} (h : tokenStep s = .ok t) :
    t.inputSide = s.inputSide ∧ t.p = s.p + (find s).span := by
  have hrec : (record (find s) (advance (find s) s)).inputSide = s.inputSide := by simp [State.inputSide]
  rcases (tally_eq_ok h).2 with ⟨-, hclose⟩ | ⟨-, rfl⟩
  · obtain ⟨hinput, hpos⟩ := closeBlock_inputSide hclose
    exact ⟨hinput.trans hrec, by simpa using hpos⟩
  · exact ⟨hrec, by simp⟩

theorem inputSide_totalIn {s t : State} (h : t.inputSide = s.inputSide) : t.totalIn = s.totalIn :=
  congrArg (fun x => x.1.length) h

theorem inputSide_inLen {s t : State} (h : t.inputSide = s.inputSide) : t.inLen = s.inLen :=
  congrArg (fun x => x.2.2.2.1) h

/-- A token takes at least one byte of lookahead. -/
theorem tokenStep_la {s t : State} (hcan : s.canFind = true) (h : tokenStep s = .ok t) : t.la < s.la := by
  obtain ⟨hinput, hpos⟩ := tokenStep_inputSide h
  obtain ⟨hspan, hend, -⟩ := tokenReproducesInput s hcan
  have htotal := inputSide_totalIn hinput
  simp only [State.la] at *
  omega

/-- FILL moves `fillCount` bytes from the range to the lookahead. -/
theorem fill_moves {s t : State} (h : fill s = .ok t) :
    t.inOff + t.inLen = s.inOff + s.inLen ∧ t.inLen.toNat + s.fillCount = s.inLen.toNat ∧
    t.totalIn = s.totalIn + s.fillCount ∧ t.p = s.p ∧ t.flags = s.flags := by
  have hle : s.fillCount ≤ s.inLen.toNat := min_le_left ..
  obtain ⟨-, rfl⟩ := fill_eq_ok h
  refine ⟨?_, ?_, ?_, rfl, rfl⟩
  · dsimp only
    ring
  · have hcount : (BitVec.ofNat 32 s.fillCount).toNat = s.fillCount := Nat.mod_eq_of_lt (by omega)
    dsimp only
    rw [BitVec.toNat_sub_of_le (BitVec.le_def.2 (hcount.symm ▸ hle)), hcount]
    omega
  · simp [State.totalIn]

/-- Where FILL is enabled it moves a byte at least. -/
theorem fillCount_pos {s : State} (h : s.fillEnabled = true) : 1 ≤ s.fillCount := by
  obtain ⟨-, hin, hla⟩ := (fillEnabled_iff s).1 h
  have : 1 ≤ s.inLen.toNat := Nat.one_le_iff_ne_zero.2 fun h => hin (BitVec.eq_of_toNat_eq h)
  exact le_min this (by omega)

/-! ### STEP's loop ends quiet (44_host_commands.md R205 line 11) -/

/-- With enough fuel the match loop ends where FIND is not enabled; it moved exactly where it took lookahead. -/
theorem matchLoop_ok {fuel : Nat} {s : State} {r : State × Bool} (hfuel : s.la ≤ fuel)
    (h : matchLoop fuel s = .ok r) :
    r.1.canFind = false ∧ r.1.inLen = s.inLen ∧ ((r.2 = false ∧ r.1 = s) ∨ (r.2 = true ∧ r.1.la < s.la)) := by
  induction fuel generalizing s r with
  | zero =>
    cases h
    exact ⟨not_canFind_of_la (Nat.le_zero.1 hfuel), rfl, .inl ⟨rfl, rfl⟩⟩
  | succ fuel ih =>
    by_cases hcan : s.canFind = true
    · rw [matchLoop, if_pos hcan] at h
      obtain ⟨u, hu, h⟩ := bind_ok h
      obtain ⟨r', hr', h⟩ := bind_ok h
      cases h
      have hla := tokenStep_la hcan hu
      obtain ⟨hstop, hlen, hmoved⟩ := ih (by omega) hr'
      refine ⟨hstop, hlen.trans (inputSide_inLen (tokenStep_inputSide hu).1), .inr ⟨rfl, ?_⟩⟩
      rcases hmoved with ⟨-, hsame⟩ | ⟨-, hless⟩
      · exact hsame ▸ hla
      · exact hless.trans hla
    · rw [Bool.not_eq_true] at hcan
      rw [matchLoop_of_not_canFind hcan] at h
      cases h
      exact ⟨hcan, rfl, .inl ⟨rfl, rfl⟩⟩

/-- What STEP's loop still has to do: each byte is filled, then taken. -/
def State.work (s : State) : Nat := 2 * s.inLen.toNat + s.la

theorem fillIfEnabled_cases {s u : State} (h : fillIfEnabled s = .ok u) :
    (s.fillEnabled = true ∧ fill s = .ok u) ∨ (s.fillEnabled = false ∧ u = s) := by
  unfold fillIfEnabled at h
  split at h
  · next hfill => exact .inl ⟨hfill, h⟩
  · next hfill => exact .inr ⟨by simpa using hfill, (Except.ok.inj h).symm⟩

theorem fill_work {s u : State} (hfill : s.fillEnabled = true) (h : fill s = .ok u) : u.work < s.work := by
  obtain ⟨-, hrange, htotal, hpos, -⟩ := fill_moves h
  have hcount := fillCount_pos hfill
  simp only [State.work, State.la] at *
  omega

theorem matchLoop_work {s : State} {r : State × Bool} (h : matchLoop s.la s = .ok r) :
    (r.2 = false ∧ r.1 = s) ∨ (r.2 = true ∧ r.1.work < s.work) := by
  obtain ⟨-, hlen, hmoved⟩ := matchLoop_ok le_rfl h
  refine hmoved.imp_right fun ⟨hmoved, hless⟩ => ⟨hmoved, ?_⟩
  rw [State.work, State.work, hlen]
  omega

/-- One pass of the loop: it ends the loop, quiet, or it lowers the work and the loop goes on. -/
theorem quiesce_pass {fuel : Nat} {s t : State} (h : quiesce (fuel + 1) s = .ok t) :
    t.Quiet ∨ ∃ u : State, u.work < s.work ∧ quiesce fuel { u with progress := true } = .ok t := by
  obtain ⟨u, hu, hloop⟩ := bind_ok h
  obtain ⟨r, hr, hend⟩ := bind_ok hloop
  have hstop := (matchLoop_ok le_rfl hr).1
  have hmatch := matchLoop_work hr
  rcases fillIfEnabled_cases hu with ⟨hfill, hu⟩ | ⟨hfill, rfl⟩
  · have hless := fill_work hfill hu
    rw [hfill, Bool.true_or, if_pos rfl] at hend
    refine .inr ⟨r.1, ?_, hend⟩
    rcases hmatch with ⟨-, hsame⟩ | ⟨-, hmatch⟩
    · exact hsame ▸ hless
    · exact hmatch.trans hless
  · rw [hfill, Bool.false_or] at hend
    rcases hmatch with ⟨hstill, hsame⟩ | ⟨hmoved, hless⟩
    · rw [hstill, if_neg Bool.false_ne_true, hsame] at hend
      cases hend
      exact .inl ⟨hfill, hsame ▸ hstop⟩
    · rw [hmoved, if_pos rfl] at hend
      exact .inr ⟨r.1, hless, hend⟩

/-- With more fuel than work the loop ends quiet. -/
theorem quiesce_quiet {fuel : Nat} {s t : State} (hfuel : s.work < fuel) (h : quiesce fuel s = .ok t) : t.Quiet := by
  induction fuel generalizing s with
  | zero => exact absurd hfuel (Nat.not_lt_zero _)
  | succ fuel ih =>
    rcases quiesce_pass h with hquiet | ⟨u, hless, hrest⟩
    · exact hquiet
    · exact ih (s := { u with progress := true }) (lt_of_lt_of_le hless (Nat.le_of_lt_succ hfuel)) hrest

theorem quiesce_stepFuel_quiet {s t : State} (h : quiesce s.stepFuel s = .ok t) : t.Quiet :=
  quiesce_quiet (Nat.lt_succ_self _) h

/-- A quiet core has consumed its range and, with a flag, all lookahead (44_host_commands.md R205 line 11, 10_state.md
R40 (d)). -/
theorem State.Quiet.consumed {s : State} (h : s.Quiet) (hp : s.phase = .accumulating) (hc : s.params.legal) :
    s.inLen = 0 ∧ s.la < s.params.maxMatch ∧ (s.flags ≠ 0 → s.la = 0) := by
  obtain ⟨hfill, hfind⟩ := h
  obtain ⟨-, -, ⟨hcap, -⟩, hmatch, -⟩ := hc
  rw [Bool.eq_false_iff, ne_eq, fillEnabled_iff] at hfill
  rw [Bool.eq_false_iff, ne_eq, canFind_iff] at hfind
  have hla : s.la < s.params.maxMatch := by
    by_contra hge
    exact hfind ⟨hp, by omega, .inl (by omega)⟩
  have hin : s.inLen = 0 := by
    by_contra hne
    exact hfill ⟨hp, hne, by omega⟩
  refine ⟨hin, hla, fun hfl => ?_⟩
  by_contra hne
  exact hfind ⟨hp, by omega, .inr ⟨hin, hfl⟩⟩

/-! ### The state with its input supplied whole (40_match_finder.md R127)

What the cuts of the input may not change is a function of the state in which all input, the pending range and `k` bytes
more, is consumed but no further token taken; a run with a flag takes the rest of the tokens from there. -/

/-- `s` with its pending range and the `k` bytes after it consumed, under the flags `fl`, and with the response of a
STEP that worked. -/
def State.supplied (fl : BitVec 2) (k : Nat) (s : State) : State :=
  { s with
    window := s.window ++ s.inputBytes (s.inLen.toNat + k)
    cksum := (s.inputBytes (s.inLen.toNat + k)).foldl Config.ckFold s.cksum
    inOff := s.inOff + s.inLen + .ofNat 32 k
    inLen := 0, flags := fl, progress := true, rerr := false, rval := 1 }

section
variable {fl : BitVec 2} {k : Nat} {s t : State}

@[simp] theorem supplied_params : (s.supplied fl k).params = s.params := rfl
@[simp] theorem supplied_qn : (s.supplied fl k).qn = s.qn := rfl
@[simp] theorem supplied_p : (s.supplied fl k).p = s.p := rfl

theorem supplied_totalIn : (s.supplied fl k).totalIn = s.totalIn + (s.inLen.toNat + k) := by
  simp [State.supplied, State.totalIn]

theorem supplied_la (hp : s.p ≤ s.totalIn) : (s.supplied fl k).la = s.la + (s.inLen.toNat + k) := by
  rw [State.la, supplied_totalIn, supplied_p, State.la]
  omega

theorem inputBytes_add (s : State) (m n : Nat) :
    s.inputBytes (m + n) = s.inputBytes m ++ State.inputBytes { s with inOff := s.inOff + .ofNat 32 m } n := by
  simp only [State.inputBytes, List.range_add, List.map_append, List.map_map, State.memRead]
  congr 2
  funext i
  simp [BitVec.add_assoc]

/-- FILL consumes bytes that the whole has consumed already. -/
theorem fill_supplied (h : fill s = .ok t) : t.supplied fl k = s.supplied fl k := by
  obtain ⟨hoff, hlen, -, -, -⟩ := fill_moves h
  obtain ⟨-, rfl⟩ := fill_eq_ok h
  have hsplit : s.inputBytes (s.inLen.toNat + k) = s.inputBytes s.fillCount ++
      State.inputBytes { s with inOff := s.inOff + .ofNat 32 s.fillCount }
        ((s.inLen - .ofNat 32 s.fillCount).toNat + k) := by
    rw [← inputBytes_add, ← Nat.add_assoc, Nat.add_comm s.fillCount, hlen]
  have hend : s.inOff + .ofNat 32 s.fillCount + (s.inLen - .ofNat 32 s.fillCount) + .ofNat 32 k =
      s.inOff + s.inLen + .ofNat 32 k := congrArg (· + .ofNat 32 k) hoff
  unfold State.supplied
  rw [hsplit, hend, List.foldl_append, ← List.append_assoc]
  rfl

/-! #### FIND sees no further than `MAX_MATCH` bytes -/

theorem commonPrefix_append {lim : Nat} {as bs : List Byte} (ha : lim ≤ as.length) (hb : lim ≤ bs.length)
    (xs : List Byte) : commonPrefix lim (as ++ xs) (bs ++ xs) = commonPrefix lim as bs := by
  induction lim generalizing as bs with
  | zero => rfl
  | succ lim ih =>
    cases as with
    | nil => simp at ha
    | cons a as =>
      cases bs with
      | nil => simp at hb
      | cons b bs =>
        have := ih (Nat.le_of_succ_le_succ ha) (Nat.le_of_succ_le_succ hb)
        simp [commonPrefix, this]

theorem searchDown_append {lim d : Nat} {cur src : List Byte} (hcur : lim ≤ cur.length)
    (hsrc : cur.length + d ≤ src.length) (xs : List Byte) (best : Nat × Nat) :
    searchDown lim (cur ++ xs) d (src ++ xs) best = searchDown lim cur d src best := by
  induction d generalizing src best with
  | zero => rfl
  | succ d ih =>
    have hne : src ≠ [] := List.length_pos_iff.1 (by omega)
    have htail : cur.length + d ≤ src.tail.length := by
      rw [List.length_tail]
      omega
    rw [searchDown, searchDown, List.tail_append_of_ne_nil hne, commonPrefix_append (by omega) hcur, ih htail]

/-- FIND reports the same token where more input follows, if the limit of a match is the same. -/
theorem find_supplied (hla : 1 ≤ s.la) (hlim : (s.supplied fl k).matchLimit = s.matchLimit) :
    find (s.supplied fl k) = find s := by
  have hle : s.matchLimit ≤ s.window.length - s.p := matchLimit_le_la s
  have hp : s.p < s.window.length := by
    simp only [State.la, State.totalIn] at hla
    omega
  have hbest : (s.supplied fl k).bestMatch = s.bestMatch := by
    have hreach : min s.p s.params.wsize ≤ s.p := min_le_left ..
    simp only [State.bestMatch, hlim]
    simp only [State.supplied]
    rw [List.drop_append_of_le_length (by omega), List.drop_append_of_le_length (by omega), searchDown_append]
    · rw [List.length_drop]; omega
    · rw [List.length_drop, List.length_drop]; omega
  have hlit : (s.supplied fl k).window.getD (s.supplied fl k).p 0 = s.window.getD s.p 0 := by
    simp only [State.supplied, List.getD_eq_getElem?_getD, List.getElem?_append_left hp]
  simp only [find, hbest, hlit]

/-! #### CLOSE_BLOCK and TALLY read no byte past `P` -/

theorem blockBytes_supplied (hp : s.p ≤ s.totalIn) : (s.supplied fl k).blockBytes = s.blockBytes := by
  have hlen : s.p ≤ s.window.length := hp
  have hblk : (s.supplied fl k).blkLen = s.blkLen := rfl
  simp only [State.blockBytes, hblk]
  simp only [State.supplied]
  by_cases hstart : s.blkStart ≤ s.p
  · rw [List.drop_append_of_le_length (by omega), List.take_append_of_le_length]
    rw [List.length_drop, State.blkLen]
    omega
  · have hzero : s.blkLen = 0 := by
      rw [State.blkLen]
      omega
    simp [hzero]

theorem emitBlock_supplied (hp : s.p ≤ s.totalIn) (kind : BlockKind) (final : Bool) (z : Sizing) :
    emitBlock kind final z ((s.supplied fl k).beginSizing.beginEmitting z) =
      emitBlock kind final z (s.beginSizing.beginEmitting z) := by
  cases kind with
  | stored =>
    have hbytes : ((s.supplied fl k).beginSizing.beginEmitting z).blockBytes =
        (s.beginSizing.beginEmitting z).blockBytes := blockBytes_supplied (fl := fl) (k := k) hp
    simp only [emitBlock, emitStored, hbytes]
    rfl
  | fixed => rfl
  | dynamic => rfl

/-- What CLOSE_BLOCK ends in: the sizing, the emission, and the block reset (42_block_coordinator.md R160). -/
theorem closeBlock_toOption (h : s.phase = .accumulating) (final : Bool) : (closeBlock final s).toOption =
    (sizeBlock (tallyEob s.lfreq) s.dfreq fun seq => tallySequence seq s.blfreq).toOption.bind fun z =>
      (emitBlock ((s.beginSizing.beginEmitting z).choice z) final z (s.beginSizing.beginEmitting z)).toOption.map
        fun w => { s.clearedBlock with ser := w, phase := .accumulating } := by
  rw [closeBlock, if_pos h]
  simp only [beginSizing_lfreq, beginSizing_dfreq, beginSizing_blfreq]
  cases sizeBlock (tallyEob s.lfreq) s.dfreq fun seq => tallySequence seq s.blfreq with
  | error info => rfl
  | ok z =>
    simp only [toOption_bind, resetBlock_eq, toOption_ok, Option.bind_some]
    cases emitBlock ((s.beginSizing.beginEmitting z).choice z) final z (s.beginSizing.beginEmitting z) <;> rfl

/-- A block closes the same with the input supplied whole. -/
theorem closeBlock_supplied (hp : s.p ≤ s.totalIn) (final : Bool) :
    (closeBlock final (s.supplied fl k)).toOption = (closeBlock final s).toOption.map (State.supplied fl k) := by
  by_cases hphase : s.phase = .accumulating
  · rw [closeBlock_toOption (s := s.supplied fl k) hphase, closeBlock_toOption hphase, Option.map_bind]
    change Option.bind (sizeBlock (tallyEob s.lfreq) s.dfreq _).toOption _ = _
    congr 1
    funext z
    rw [emitBlock_supplied hp, Function.comp_apply, Option.map_map]
    rfl
  · have hphase' : (s.supplied fl k).phase ≠ .accumulating := hphase
    simp [closeBlock, hphase, hphase']

theorem tally_supplied (t : Token) (hp : s.p ≤ s.totalIn) :
    (tally t (s.supplied fl k)).toOption = (tally t s).toOption.map (State.supplied fl k) := by
  by_cases hroom : s.qn < s.params.qcap
  · have hrec : record t (s.supplied fl k) = (record t s).supplied fl k := by cases t <;> rfl
    have htotal : (record t s).totalIn = s.totalIn := by simp [State.totalIn]
    rw [tally_of_room hroom, tally_of_room (s := s.supplied fl k) hroom, hrec, supplied_qn, supplied_params]
    split
    · exact closeBlock_supplied (by rwa [record_p, htotal]) false
    · rfl
  · simp [tally, hroom]

/-- No input is to come, or the lookahead holds a whole match: then the next token does not depend on what follows. -/
def State.Settled (k : Nat) (s : State) : Prop := s.params.maxMatch ≤ s.la ∨ (s.inLen = 0 ∧ k = 0)

theorem matchLimit_supplied (hp : s.p ≤ s.totalIn) (h : s.Settled k) :
    (s.supplied fl k).matchLimit = s.matchLimit := by
  rw [State.matchLimit, State.matchLimit, supplied_la hp, supplied_params]
  rcases h with hla | ⟨hin, rfl⟩
  · omega
  · simp [hin]

/-- The next token is the same with the input supplied whole. -/
theorem tokenStep_supplied (hp : s.p ≤ s.totalIn) (hcan : s.canFind = true) (h : s.Settled k) :
    (tokenStep (s.supplied fl k)).toOption = (tokenStep s).toOption.map (State.supplied fl k) := by
  obtain ⟨-, hla, -⟩ := (canFind_iff s).1 hcan
  obtain ⟨-, hend, -⟩ := tokenReproducesInput s hcan
  rw [tokenStep, find_supplied hla (matchLimit_supplied hp h)]
  exact tally_supplied (s := advance (find s) s) (find s) hend

theorem canFind_supplied (hp : s.p ≤ s.totalIn) (hcan : s.canFind = true) (hfl : fl ≠ 0) :
    (s.supplied fl k).canFind = true := by
  obtain ⟨hphase, hla, -⟩ := (canFind_iff s).1 hcan
  refine (canFind_iff _).2 ⟨hphase, ?_, .inr ⟨rfl, hfl⟩⟩
  rw [supplied_la hp]
  omega

end

/-! ### All the tokens (40_match_finder.md R127) -/

/-- The state in which the match loop ends, if it ends well. -/
def State.drained (s : State) : Option State := (matchLoop s.la s).toOption.map Prod.fst

theorem matchLoop_succ {s : State} (hcan : s.canFind = true) (fuel : Nat) :
    (matchLoop (fuel + 1) s).toOption.map Prod.fst =
      (tokenStep s).toOption.bind fun u => (matchLoop fuel u).toOption.map Prod.fst := by
  rw [matchLoop, if_pos hcan, tokenStep]
  dsimp only
  rw [toOption_bind, Option.map_bind]
  congr 1
  funext u
  rw [Function.comp_apply, toOption_bind]
  cases matchLoop fuel u <;> rfl

/-- More fuel than lookahead changes nothing. -/
theorem matchLoop_fuel {s : State} {fuel fuel' : Nat} (h : s.la ≤ fuel) (h' : s.la ≤ fuel') :
    (matchLoop fuel s).toOption.map Prod.fst = (matchLoop fuel' s).toOption.map Prod.fst := by
  induction fuel generalizing s fuel' with
  | zero =>
    have hcan : s.canFind = false := not_canFind_of_la (Nat.le_zero.1 h)
    rw [matchLoop_of_not_canFind hcan, matchLoop_of_not_canFind hcan]
  | succ fuel ih =>
    by_cases hcan : s.canFind = true
    · obtain ⟨-, hla, -⟩ := (canFind_iff s).1 hcan
      obtain ⟨n, rfl⟩ : ∃ n, fuel' = n + 1 := ⟨fuel' - 1, by omega⟩
      rw [matchLoop_succ hcan, matchLoop_succ hcan]
      refine Option.bind_congr fun u hu => ?_
      have hless := tokenStep_la hcan (toOption_eq_some.1 hu)
      exact ih (by omega) (by omega)
    · rw [Bool.not_eq_true] at hcan
      rw [matchLoop_of_not_canFind hcan, matchLoop_of_not_canFind hcan]

theorem drained_of_not_canFind {s : State} (h : s.canFind = false) : s.drained = some s := by
  rw [State.drained, matchLoop_of_not_canFind h]
  rfl

theorem drained_of_canFind {s : State} (hcan : s.canFind = true) :
    s.drained = (tokenStep s).toOption.bind State.drained := by
  obtain ⟨-, hla, -⟩ := (canFind_iff s).1 hcan
  have hfuel : s.la = s.la - 1 + 1 := by omega
  rw [State.drained, hfuel, matchLoop_succ hcan]
  refine Option.bind_congr fun u hu => matchLoop_fuel ?_ le_rfl
  have hless := tokenStep_la hcan (toOption_eq_some.1 hu)
  omega

/-! ### What no micro-operation of STEP changes -/

/-- Inside a STEP under flags `fl`, of which the whole input is `n` bytes long and ends before offset `stop`. -/
structure Feeding (fl : BitVec 2) (n : Nat) (stop : Word) (s : State) : Prop where
  mid : s.MidStep
  flags : s.flags = fl
  total : s.totalIn + s.inLen.toNat = n
  range : s.inOff + s.inLen = stop

section
variable {fl : BitVec 2} {n : Nat} {stop : Word}

theorem Feeding.of_inputSide {s t : State} (hs : Feeding fl n stop s) (ht : t.MidStep)
    (h : t.inputSide = s.inputSide) : Feeding fl n stop t := by
  have htotal := inputSide_totalIn h
  simp only [State.inputSide, Prod.mk.injEq] at h
  obtain ⟨-, -, hoff, hlen, hflags, -⟩ := h
  exact ⟨ht, hflags.trans hs.flags, by rw [htotal, hlen, hs.total], by rw [hoff, hlen, hs.range]⟩

theorem feeding_kept (fl : BitVec 2) (n : Nat) (stop : Word) :
    KeptInStep (fun _ _ => True) (Feeding fl n stop) where
  fill s hs _ := ends_of_ok fun t ht => by
    obtain ⟨hrange, hlen, htotal, -, hflags⟩ := fill_moves ht
    refine ⟨fill_midStep hs.mid ht, hflags.trans hs.flags, ?_, hrange.trans hs.range⟩
    have := hs.total
    omega
  tally s hs hcan := ends_of_ok fun t ht =>
    hs.of_inputSide ((tally_midStep hs.mid hcan).of_ok ht) (tokenStep_inputSide ht).1
  close _ s hs := ends_of_ok fun t ht =>
    hs.of_inputSide ((closeBlock_midStep hs.mid.1).of_ok ht) (closeBlock_inputSide ht).1
  progress s hs := ⟨midStep_of_flags hs.mid s.flags true, hs.flags, hs.total, hs.range⟩

end

section
variable {T : FCode → State → Prop} {P : State → Prop} {β : Type} {φ : State → Option β}
  (kept : KeptInStep T P)
  (hfill : ∀ s, P s → s.fillEnabled = true → (fill s).toOption.bind φ = φ s)
  (htoken : ∀ s, P s → s.canFind = true → (tokenStep s).toOption.bind φ = φ s)
  (hprogress : ∀ s, φ { s with progress := true } = φ s)
include kept htoken

/-- What each token leaves the same, the match loop leaves the same. -/
theorem matchLoop_same (fuel : Nat) {s : State} (hs : P s) :
    ((matchLoop fuel s).toOption.map Prod.fst).bind φ = φ s := by
  induction fuel generalizing s with
  | zero => rfl
  | succ fuel ih =>
    by_cases hcan : s.canFind = true
    · rw [matchLoop_succ hcan, Option.bind_assoc, ← htoken s hs hcan]
      exact Option.bind_congr fun u hu => ih ((kept.tally s hs hcan).of_ok (toOption_eq_some.1 hu))
    · rw [Bool.not_eq_true] at hcan
      rw [matchLoop_of_not_canFind hcan]
      rfl

include hfill hprogress

/-- What FILL and each token leave the same, STEP's loop leaves the same. -/
theorem quiesce_same (fuel : Nat) {s : State} (hs : P s) :
    (quiesce fuel s).toOption.bind φ = φ s := by
  induction fuel generalizing s with
  | zero => rfl
  | succ fuel ih =>
    have hfirst : (fillIfEnabled s).toOption.bind φ = φ s := by
      unfold fillIfEnabled
      split
      · next hen => exact hfill s hs hen
      · rfl
    rw [quiesce, toOption_bind, Option.bind_assoc, ← hfirst]
    refine Option.bind_congr fun u hu => ?_
    have hP : P u := (kept.fillIfEnabled_ends hs).of_ok (toOption_eq_some.1 hu)
    rw [toOption_bind, Option.bind_assoc, ← matchLoop_same kept htoken u.la hP, Option.bind_map]
    refine Option.bind_congr fun r hr => ?_
    have hr : P r.1 := (kept.matchLoop_ends u.la hP).of_ok (toOption_eq_some.1 hr)
    split
    · exact (ih (kept.progress _ hr)).trans (hprogress r.1)
    · rfl

end

/-! ### The cuts of the input (40_match_finder.md R127) -/

/-- A STEP's loop changes nothing in where the tokens of the whole input lead, under the flags `fl'` of a later STEP;
one with a flag may itself take them to the end, so no input may follow it. -/
theorem quiesce_drained {fl fl' : BitVec 2} {n k : Nat} {stop : Word} {s : State} (hs : Feeding fl n stop s)
    (hbound : n < Config.maxTotalIn) (hk : fl = 0 ∨ k = 0) (hfl : fl' ≠ 0) (fuel : Nat) :
    (quiesce fuel s).toOption.bind (fun u => (u.supplied fl' k).drained) = (s.supplied fl' k).drained := by
  refine quiesce_same (feeding_kept fl n stop) (φ := fun u => (u.supplied fl' k).drained) ?_ ?_ (fun _ => rfl) fuel hs
  · intro s hs _
    have hroom : s.totalIn + s.fillCount < Config.maxTotalIn := by
      have hle : s.fillCount ≤ s.inLen.toNat := min_le_left ..
      have := hs.total
      omega
    obtain ⟨t, ht⟩ : ∃ t, fill s = .ok t := ⟨_, if_pos hroom⟩
    rw [ht, toOption_ok, Option.bind_some, fill_supplied ht]
  · intro s hs hcan
    have hp : s.p ≤ s.totalIn := hs.mid.1.consumed
    have hsettled : s.Settled k := by
      obtain ⟨-, -, hla | ⟨hin, hflags⟩⟩ := (canFind_iff s).1 hcan
      · exact .inl hla
      · exact .inr ⟨hin, hk.resolve_left fun h => hflags (hs.flags.trans h)⟩
    rw [drained_of_canFind (canFind_supplied hp hcan hfl), tokenStep_supplied hp hcan hsettled, Option.bind_map]
    rfl

/-- With nothing pending and all lookahead taken, the tokens of the whole input lead no further. -/
theorem drained_of_consumed {s : State} {fl : BitVec 2} (hp : s.p ≤ s.totalIn) (hin : s.inLen = 0) (hla : s.la = 0) :
    (s.supplied fl 0).drained = some (s.supplied fl 0) := by
  refine drained_of_not_canFind (not_canFind_of_la ?_)
  rw [supplied_la hp, hla, hin]
  rfl

/-- With nothing pending only `PROGRESS` and the response can differ. -/
theorem supplied_of_consumed {s : State} (hin : s.inLen = 0) :
    s.supplied s.flags 0 = { s with progress := true, rerr := false, rval := 1 } := by
  have hbytes : s.inputBytes (s.inLen.toNat + 0) = [] := by
    rw [hin]
    rfl
  have hoff : s.inOff + s.inLen + .ofNat 32 0 = s.inOff := by
    rw [hin]
    exact (BitVec.add_zero _).trans (BitVec.add_zero _)
  rw [State.supplied, hbytes, hoff, List.append_nil, List.foldl_nil, ← hin]

theorem ne_zero_of_finish {fl : BitVec 2} (h : finishFlag fl = true) : fl ≠ 0 := by
  rintro rfl
  exact absurd h (by decide)

/-- FINISH sets `PROGRESS` and the response itself (44_host_commands.md R205 lines 13 to 16). -/
theorem finish_supplied {s : State} {fl : BitVec 2} (hp : s.p ≤ s.totalIn) (hin : s.inLen = 0) (hflags : s.flags = fl)
    (hfin : finishFlag fl = true) :
    (closeByFlags fl (s.supplied fl 0)).toOption.map respondProgress =
      (closeByFlags fl s).toOption.map respondProgress := by
  rw [closeByFlags, closeByFlags, if_pos hfin, if_pos hfin, toOption_bind, toOption_bind, closeBlock_supplied hp,
    Option.bind_map, Option.map_bind, Option.map_bind]
  refine Option.bind_congr fun w hw => ?_
  have hinput := (closeBlock_inputSide (toOption_eq_some.1 hw)).1
  simp only [State.inputSide, Prod.mk.injEq] at hinput
  obtain ⟨-, -, -, hlen, hkept, -⟩ := hinput
  have hsame := hkept.trans hflags
  simp only [Function.comp_apply, ← hsame, supplied_of_consumed (hlen.trans hin)]
  cases align w.ser <;> rfl

/-- The parts of a STEP outside `DONE` that ends well. -/
theorem runStep_ok {fl : BitVec 2} {s t : State} (hp : s.phase ≠ .done) (h : runStep fl s = .ok t) :
    ∃ u v, quiesce s.stepFuel s = .ok u ∧ closeByFlags fl u = .ok v ∧ t = respondProgress v := by
  rw [runStep, if_neg hp] at h
  obtain ⟨u, hu, h⟩ := bind_ok h
  obtain ⟨v, hv, h⟩ := bind_ok h
  exact ⟨u, v, hu, hv, (Except.ok.inj h).symm⟩

theorem respondProgress_midStep {s : State} (hs : s.MidStep) : (respondProgress s).MidStep :=
  have ⟨hinv, hp⟩ := (midStep_iff s).1 hs
  (midStep_iff _).2 ⟨hinv.respondOk _, hp⟩

/-- A STEP on a loaded range feeds that range. -/
theorem loaded_feeding {s : State} (hs : s.MidStep) (off n : Word) (fl : BitVec 2) :
    Feeding fl (s.totalIn + n.toNat) (off + n) ((loaded off n s).beginStep fl) where
  mid := by
    obtain ⟨hinv, hp⟩ := (midStep_iff s).1 hs
    exact (midStep_iff _).2 ⟨hinv.of_unread hinv.host.2, hp⟩
  flags := rfl
  total := rfl
  range := rfl

/-- STEP's loop ends with the whole range consumed and, with a flag, all lookahead taken. -/
theorem quiesce_consumed {fl : BitVec 2} {n : Nat} {stop : Word} {s u : State} (hs : Feeding fl n stop s)
    (h : quiesce s.stepFuel s = .ok u) : Feeding fl n stop u ∧ u.inLen = 0 ∧ (fl ≠ 0 → u.la = 0) := by
  have hu : Feeding fl n stop u := ((feeding_kept fl n stop).quiesce_ends _ hs).of_ok h
  obtain ⟨hin, -, hla⟩ := (quiesce_stepFuel_quiet h).consumed hu.mid.1.phase hu.mid.1.host.1
  exact ⟨hu, hin, hu.flags ▸ hla⟩

/-- A STEP that ends well keeps the input in the spec's range (93_implementation_defined.md U11). -/
theorem total_lt_of_runStep {fl : BitVec 2} {n : Nat} {stop : Word} {s t : State} (hs : Feeding fl n stop s)
    (h : runStep fl s = .ok t) : n < Config.maxTotalIn := by
  obtain ⟨u, -, hu, -⟩ := runStep_ok (by simp [hs.mid.1.phase]) h
  obtain ⟨hu, hin, -⟩ := quiesce_consumed hs hu
  have htotal : u.totalIn = n := by simpa [hin] using hu.total
  exact htotal ▸ hu.mid.1.counters.1

/-- With a flag and no input to follow, STEP's loop ends where the tokens of the whole input lead. -/
theorem quiesce_eq_drained {fl : BitVec 2} {n : Nat} {stop : Word} {s : State} (hs : Feeding fl n stop s)
    (hbound : n < Config.maxTotalIn) (hfl : fl ≠ 0) :
    (quiesce s.stepFuel s).toOption.map (State.supplied fl 0) = (s.supplied fl 0).drained := by
  rw [← quiesce_drained hs hbound (.inr rfl) hfl s.stepFuel, Option.map_eq_bind]
  refine Option.bind_congr fun u hu => ?_
  obtain ⟨hu, hin, hla⟩ := quiesce_consumed hs (toOption_eq_some.1 hu)
  exact (drained_of_consumed hu.mid.1.consumed hin (hla hfl)).symm

/-- What a STEP with FINISH ends in depends only on where the tokens of the whole input lead. -/
theorem finalStep_eq_drained {fl : BitVec 2} {n : Nat} {stop : Word} {s : State} (hs : Feeding fl n stop s)
    (hbound : n < Config.maxTotalIn) (hfin : finishFlag fl = true) : (runStep fl s).toOption =
      (s.supplied fl 0).drained.bind fun u => (closeByFlags fl u).toOption.map respondProgress := by
  have hopen : s.phase ≠ .done := by simp [hs.mid.1.phase]
  rw [runStep, if_neg hopen, toOption_bind, ← quiesce_eq_drained hs hbound (ne_zero_of_finish hfin), Option.bind_map]
  refine Option.bind_congr fun u hu => ?_
  obtain ⟨hu, hin, -⟩ := quiesce_consumed hs (toOption_eq_some.1 hu)
  rw [Function.comp_apply, finish_supplied hu.mid.1.consumed hin hu.flags hfin]
  cases closeByFlags fl u <;> rfl

/-- A range of `m + n` bytes supplies what a range of `m` and the `n` bytes after it do. -/
theorem supplied_loaded_add {m n : Word} (h : m.toNat + n.toNat < 2 ^ 32) (off : Word) (s : State)
    (fl fl₁ fl₂ : BitVec 2) :
    ((loaded off (m + n) s).beginStep fl₁).supplied fl 0 = ((loaded off m s).beginStep fl₂).supplied fl n.toNat := by
  have hlen : (m + n).toNat + 0 = m.toNat + n.toNat := BitVec.toNat_add_of_lt h
  have hoff : off + (m + n) + .ofNat 32 0 = off + m + .ofNat 32 n.toNat := by simp [BitVec.add_assoc]
  simp only [State.supplied, loaded, State.beginStep, hlen, hoff]
  rfl

/-- A range loaded where nothing was pending supplies the bytes after those consumed. -/
theorem supplied_loaded {s : State} (hin : s.inLen = 0) (n : Word) (fl fl₁ : BitVec 2) :
    ((loaded s.inOff n (respondProgress s)).beginStep fl₁).supplied fl 0 = s.supplied fl n.toNat := by
  have hlen : n.toNat + 0 = s.inLen.toNat + n.toNat := by simp [hin]
  have hoff : s.inOff + n + .ofNat 32 0 = s.inOff + s.inLen + .ofNat 32 n.toNat := by simp [hin]
  simp only [State.supplied, loaded, State.beginStep, hlen, hoff]
  rfl

/-- Settles O20: in each run the tokens of the whole input lead to the same state, and by `finalStep_eq_drained` that
state alone decides what the final STEP ends in. -/
theorem cuttingTheInputIsUnobservable : Obligations.CuttingTheInputIsUnobservable := by
  unfold Obligations.CuttingTheInputIsUnobservable
  intro fl s s1 t off n1 n2 hinv hphase _ hsum hfin hfirst hlast
  have hmid : s.MidStep := (midStep_iff s).2 ⟨hinv, hphase⟩
  -- The plain STEP consumes the first range and leaves `respondProgress u`.
  have hfeed₁ := loaded_feeding hmid off n1 0
  obtain ⟨u, v, hu, hv, rfl⟩ := runStep_ok (s := (loaded off n1 s).beginStep 0) (by simp [loaded, hphase]) hfirst
  obtain rfl : u = v := Except.ok.inj hv
  obtain ⟨hend, hin, -⟩ := quiesce_consumed hfeed₁ hu
  have hoff : off + n1 = u.inOff := by simpa [hin] using hend.range.symm
  have htotal : u.totalIn = s.totalIn + n1.toNat := by simpa [hin] using hend.total
  rw [hoff] at hlast
  -- Both final STEPs have the same input to feed, and the one that ends well keeps it in range.
  have hfeed₂ := loaded_feeding (respondProgress_midStep hend.mid) u.inOff n2 fl
  have hfeed := loaded_feeding hmid off (n1 + n2) fl
  have hbound₂ : u.totalIn + n2.toNat < Config.maxTotalIn := total_lt_of_runStep hfeed₂ hlast
  have hbound : s.totalIn + (n1 + n2).toNat < Config.maxTotalIn := by
    rw [BitVec.toNat_add_of_lt hsum]
    omega
  have hsame : (((loaded off (n1 + n2) s).beginStep fl).supplied fl 0).drained =
      (((loaded u.inOff n2 (respondProgress u)).beginStep fl).supplied fl 0).drained := by
    have hplain := quiesce_drained (k := n2.toNat) hfeed₁ (by omega) (.inl rfl) (ne_zero_of_finish hfin)
      ((loaded off n1 s).beginStep 0).stepFuel
    rw [hu, toOption_ok, Option.bind_some] at hplain
    rw [supplied_loaded_add hsum off s fl fl 0, ← hplain, supplied_loaded hin]
  refine toOption_eq_some.1 ((finalStep_eq_drained hfeed hbound hfin).trans ?_)
  rw [hsame, ← finalStep_eq_drained hfeed₂ hbound₂ hfin]
  exact toOption_eq_some.2 hlast

end Sys2Proof.Machine

/-! PROOFS of the family 41_huffman_builder.md: the tables the builder fills, the tree and its depths (R141, R142), the
limited lengths (R144, R145), the canonical codes (R146, R147), NUMCODES (R148) and what every result of BUILD_CODE has
(R143, R150). -/

namespace Sys2Proof.Machine

/-! ### Tables of numbers -/

@[simp] theorem entry_nil (i : Nat) : entry [] i = 0 := rfl

@[simp] theorem entry_cons_zero (x : Nat) (t : List Nat) : entry (x :: t) 0 = x := rfl

@[simp] theorem entry_cons_succ (x : Nat) (t : List Nat) (i : Nat) : entry (x :: t) (i + 1) = entry t i := by
  simp [entry]

@[simp] theorem entry_replicate_zero (n i : Nat) : entry (List.replicate n 0) i = 0 := by
  simp only [entry, List.getD_eq_getElem?_getD, List.getElem?_replicate]
  split <;> rfl

theorem entry_of_length_le {t : List Nat} {i : Nat} (h : t.length ≤ i) : entry t i = 0 := by
  simp [entry, h]

theorem lt_length_of_entry_pos {t : List Nat} {i : Nat} (h : 0 < entry t i) : i < t.length := by
  by_contra hi
  rw [entry_of_length_le (not_lt.1 hi)] at h
  exact h.false

theorem entry_modify {t : List Nat} {i j : Nat} (f : Nat → Nat) (hj : j < t.length) :
    entry (t.modify i f) j = if i = j then f (entry t j) else entry t j := by
  simp only [entry, List.getD_eq_getElem?_getD, List.getElem?_modify, List.getElem?_eq_getElem hj]
  split <;> rfl

theorem entry_set {t : List Nat} {i j : Nat} (v : Nat) (hi : i < t.length) :
    entry (t.set i v) j = if i = j then v else entry t j := by
  simp only [entry, List.getD_eq_getElem?_getD, List.getElem?_set, hi, if_true]
  split <;> rfl

theorem entry_take {t : List Nat} {n i : Nat} (h : i < n) : entry (t.take n) i = entry t i := by
  simp [entry, List.getD_eq_getElem?_getD, h]

theorem map_entry_range (t : List Nat) : (List.range t.length).map (entry t) = t := by
  refine List.ext_getElem (by simp) fun i _ hi => ?_
  simp [entry, hi]

/-- What an entry gains the sum gains. -/
theorem sum_modify {t : List Nat} {i : Nat} (f : Nat → Nat) (hi : i < t.length) :
    (t.modify i f).sum + entry t i = t.sum + f (entry t i) := by
  induction t generalizing i with
  | nil => simp at hi
  | cons x t ih =>
    cases i with
    | zero => simp only [List.modify_zero_cons, List.sum_cons, entry_cons_zero]; omega
    | succ i =>
      have := ih (Nat.lt_of_succ_lt_succ hi)
      simp only [List.modify_succ_cons, List.sum_cons, entry_cons_succ]
      omega

/-! ### The used symbols (41_huffman_builder.md R141) -/

theorem leavesFrom_eq_filter (s : Nat) (freq : List Nat) :
    leavesFrom s freq = ((List.range freq.length).filter fun i => decide (0 < entry freq i)).map (s + ·) := by
  induction freq generalizing s with
  | nil => rfl
  | cons f fs ih =>
    rw [List.length_cons, List.range_succ_eq_map, List.filter_cons, List.filter_map, leavesFrom, ih (s + 1)]
    have hshift : (fun i => s + 1 + i) = (fun i => s + i) ∘ Nat.succ := funext fun i => by simp; omega
    cases f <;> simp [Function.comp_def, hshift]

theorem leaves_eq_filter (freq : List Nat) :
    leaves freq = (List.range freq.length).filter fun i => decide (0 < entry freq i) := by
  simp [leaves, leavesFrom_eq_filter]

theorem mem_leaves {freq : List Nat} {s : Nat} : s ∈ leaves freq ↔ 0 < entry freq s := by
  simp only [leaves_eq_filter, List.mem_filter, List.mem_range, decide_eq_true_eq, and_iff_right_iff_imp]
  exact lt_length_of_entry_pos

theorem leaves_nodup (freq : List Nat) : (leaves freq).Nodup := by
  rw [leaves_eq_filter]
  exact List.nodup_range.filter _

theorem leaves_length_le (freq : List Nat) : (leaves freq).length ≤ freq.length := by
  rw [leaves_eq_filter]
  exact (List.length_filter_le _ _).trans_eq List.length_range

theorem leaves_congr {as bs : List Nat} (hlen : as.length = bs.length)
    (h : ∀ s < bs.length, entry as s = 0 ↔ entry bs s = 0) : leaves as = leaves bs := by
  rw [leaves_eq_filter, leaves_eq_filter, hlen]
  refine List.filter_congr fun s hs => ?_
  simp only [Nat.pos_iff_ne_zero, ne_eq, h s (List.mem_range.1 hs)]

/-- The values a table has at its nonzero entries. -/
theorem map_entry_leaves (t : List Nat) : (leaves t).map (entry t) = t.filter fun x => decide (0 < x) := by
  conv_rhs => rw [← map_entry_range t, List.filter_map]
  rw [leaves_eq_filter]
  rfl

/-! ### Tables made from pairs -/

section
variable {n : Nat} {pairs : List (Nat × Nat)}

theorem tableOf_append_singleton (x : Nat × Nat) : tableOf n (pairs ++ [x]) = (tableOf n pairs).set x.1 x.2 := by
  simp [tableOf]

theorem entry_tableOf_of_not_mem {s : Nat} (hrange : ∀ x ∈ pairs, x.1 < n) (hs : s ∉ pairs.map Prod.fst) :
    entry (tableOf n pairs) s = 0 := by
  induction pairs using List.reverseRecOn with
  | nil => exact entry_replicate_zero n s
  | append_singleton pairs x ih =>
    obtain ⟨hrange, hx⟩ := List.forall_mem_append.1 hrange
    simp only [List.map_append, List.map_cons, List.map_nil, List.mem_append, List.mem_singleton, not_or] at hs
    obtain ⟨hs, hne⟩ := hs
    rw [tableOf_append_singleton, entry_set _ (by simpa using hx), if_neg (Ne.symm hne), ih hrange hs]

theorem entry_tableOf_of_mem {x : Nat × Nat} (hrange : ∀ y ∈ pairs, y.1 < n) (hnodup : (pairs.map Prod.fst).Nodup)
    (hx : x ∈ pairs) : entry (tableOf n pairs) x.1 = x.2 := by
  induction pairs using List.reverseRecOn with
  | nil => simp at hx
  | append_singleton pairs y ih =>
    obtain ⟨hrange, hy⟩ := List.forall_mem_append.1 hrange
    rw [List.map_append, List.nodup_append] at hnodup
    obtain ⟨hnodup, -, hdisj⟩ := hnodup
    rw [tableOf_append_singleton, entry_set _ (by simpa using hy)]
    rcases List.mem_append.1 hx with hx | hx
    · have hne := hdisj x.1 (List.mem_map_of_mem hx) y.1 (by simp)
      rw [if_neg hne.symm, ih hrange hnodup hx]
    · rw [List.mem_singleton.1 hx, if_pos rfl]

end

/-- `pairs` gives a positive length to each used symbol once, and to no other symbol. -/
structure Assigns (freq : List Nat) (pairs : List (Nat × Nat)) : Prop where
  symbols : (pairs.map Prod.fst).Perm (leaves freq)
  pos : ∀ x ∈ pairs, 0 < x.2

namespace Assigns
variable {freq : List Nat} {pairs : List (Nat × Nat)} (h : Assigns freq pairs)
include h

theorem fst_lt_length : ∀ x ∈ pairs, x.1 < freq.length := fun _ hx =>
  lt_length_of_entry_pos (mem_leaves.1 (h.symbols.subset (List.mem_map_of_mem hx)))

theorem entry_eq {x : Nat × Nat} (hx : x ∈ pairs) : entry (tableOf freq.length pairs) x.1 = x.2 :=
  entry_tableOf_of_mem h.fst_lt_length (h.symbols.nodup_iff.2 (leaves_nodup freq)) hx

theorem entry_pos_iff {s : Nat} : 0 < entry (tableOf freq.length pairs) s ↔ 0 < entry freq s := by
  rw [← mem_leaves (freq := freq), ← h.symbols.mem_iff]
  constructor
  · intro hpos
    by_contra hs
    rw [entry_tableOf_of_not_mem h.fst_lt_length hs] at hpos
    exact hpos.false
  · intro hs
    obtain ⟨x, hx, rfl⟩ := List.mem_map.1 hs
    rw [h.entry_eq hx]
    exact h.pos x hx

/-- The lengths of the used symbols are those of the pairs. -/
theorem lengths_perm : ((leaves freq).map (entry (tableOf freq.length pairs))).Perm (pairs.map Prod.snd) := by
  have hpairs : (pairs.map Prod.fst).map (entry (tableOf freq.length pairs)) = pairs.map Prod.snd := by
    rw [List.map_map]
    exact List.map_congr_left fun x hx => h.entry_eq hx
  exact hpairs ▸ h.symbols.symm.map _

end Assigns

/-! ### Code space (41_huffman_builder.md R144, R150 (b)) -/

/-- The code space the lengths take, in units of `2^-cap` (R150 (b)). -/
def lengthSpace (cap : Nat) (lens : List Nat) : Nat := (lens.map fun l => 2 ^ (cap - l)).sum

theorem lengthSpace_perm {cap : Nat} {as bs : List Nat} (h : as.Perm bs) : lengthSpace cap as = lengthSpace cap bs :=
  (h.map _).sum_eq

theorem lengthSpace_append (cap : Nat) (as bs : List Nat) :
    lengthSpace cap (as ++ bs) = lengthSpace cap as + lengthSpace cap bs := by
  simp [lengthSpace]

/-- What a bucket gains takes code space in units of its length. -/
theorem codeSpace_modify {t : List Nat} {i : Nat} (f : Nat → Nat) (hi : i < t.length) :
    codeSpace (t.modify i f) + entry t i * 2 ^ (t.length - 1 - i) =
      codeSpace t + f (entry t i) * 2 ^ (t.length - 1 - i) := by
  induction t generalizing i with
  | nil => simp at hi
  | cons x t ih =>
    cases i with
    | zero =>
      simp only [List.modify_zero_cons, codeSpace, entry_cons_zero, List.length_cons, Nat.add_sub_cancel, Nat.sub_zero]
      omega
    | succ i =>
      have hexp : (x :: t).length - 1 - (i + 1) = t.length - 1 - i := by rw [List.length_cons]; omega
      have := ih (Nat.lt_of_succ_lt_succ hi)
      rw [hexp]
      simp only [List.modify_succ_cons, codeSpace, entry_cons_succ, List.length_modify]
      omega

/-! ### The tree (41_huffman_builder.md R141, R142) -/

/-- Folding an insertion over a list adds what it inserts and loses nothing. -/
theorem foldl_insert_perm {α β : Type} {ins : α → List α → List α} (hins : ∀ x l, (ins x l).Perm (x :: l)) (f : β → α)
    (bs : List β) (acc : List α) : (bs.foldl (fun l b => ins (f b) l) acc).Perm (bs.map f ++ acc) := by
  induction bs generalizing acc with
  | nil => exact .refl _
  | cons b bs ih => exact (ih _).trans (((hins _ _).append_left _).trans List.perm_middle)

theorem insertNode_perm (x : HNode) (h : List HNode) : (insertNode x h).Perm (x :: h) := by
  induction h with
  | nil => exact .refl _
  | cons y ys ih =>
    unfold insertNode
    split
    · exact .refl _
    · exact (ih.cons y).trans (.swap x y ys)

/-- A tree's symbols, left to right. -/
def HTree.symbols : HTree → List Nat
  | .leaf s => [s]
  | .node a b => a.symbols ++ b.symbols

theorem HTree.depths_map_fst (t : HTree) (d : Nat) : (t.depths d).map Prod.fst = t.symbols := by
  induction t generalizing d with
  | leaf s => rfl
  | node a b iha ihb => rw [depths, List.map_append, iha, ihb, symbols]

theorem HTree.le_depths (t : HTree) (d : Nat) : ∀ x ∈ t.depths d, d ≤ x.2 := by
  induction t generalizing d with
  | leaf s => simp [depths]
  | node a b iha ihb =>
    exact List.forall_mem_append.2
      ⟨fun x hx => (Nat.le_succ d).trans (iha _ x hx), fun x hx => (Nat.le_succ d).trans (ihb _ x hx)⟩

theorem HTree.depths_ne_nil (t : HTree) (d : Nat) : t.depths d ≠ [] := by
  induction t generalizing d with
  | leaf s => simp [depths]
  | node a b iha _ => simp [depths, iha]

/-- The leaves of a tree at depth `d` take the code space of one code of length `d`. -/
theorem HTree.lengthSpace_depths (t : HTree) {d cap : Nat} (h : ∀ x ∈ t.depths d, x.2 ≤ cap) :
    lengthSpace cap ((t.depths d).map Prod.snd) = 2 ^ (cap - d) := by
  induction t generalizing d with
  | leaf s => simp [depths, lengthSpace]
  | node a b iha ihb =>
    obtain ⟨ha, hb⟩ := List.forall_mem_append.1 h
    obtain ⟨x, hx⟩ := List.exists_mem_of_ne_nil _ (a.depths_ne_nil (d + 1))
    have hd : d + 1 ≤ cap := (a.le_depths _ x hx).trans (ha x hx)
    have hexp : cap - d = cap - (d + 1) + 1 := by omega
    rw [depths, List.map_append, lengthSpace_append, iha ha, ihb hb, hexp, Nat.pow_succ, Nat.mul_two]

/-- All symbols below the nodes of `H`. -/
def forestSymbols (h : List HNode) : List Nat := h.flatMap fun x => x.tree.symbols

theorem forestSymbols_insertNode (x : HNode) (h : List HNode) :
    (forestSymbols (insertNode x h)).Perm (x.tree.symbols ++ forestSymbols h) :=
  (insertNode_perm x h).flatMap_right _

theorem leafNodes_perm (freq : List Nat) :
    (leafNodes freq).Perm ((leaves freq).map fun s => { f := entry freq s, seq := s, tree := .leaf s }) := by
  rw [← List.append_nil (List.map ..)]
  exact foldl_insert_perm insertNode_perm _ (leaves freq) []

theorem forestSymbols_leafNodes (freq : List Nat) : (forestSymbols (leafNodes freq)).Perm (leaves freq) := by
  refine ((leafNodes_perm freq).flatMap_right _).trans (.of_eq ?_)
  simp [List.flatMap_map, HTree.symbols]

/-- Enough merges leave one root, below which the symbols are those below the nodes at the start. -/
theorem mergeNodes_root {fuel : Nat} (seq : Nat) {h : List HNode} (hne : h ≠ []) (hfuel : h.length ≤ fuel + 1) :
    ∃ root, mergeNodes fuel seq h = [root] ∧ root.tree.symbols.Perm (forestSymbols h) := by
  induction fuel generalizing seq h with
  | zero =>
    obtain ⟨x, rfl⟩ := List.length_eq_one_iff.1 (le_antisymm hfuel (List.length_pos_iff.2 hne))
    exact ⟨x, rfl, .of_eq (by simp [forestSymbols])⟩
  | succ fuel ih =>
    match h with
    | [x] => exact ⟨x, rfl, .of_eq (by simp [forestSymbols])⟩
    | a :: b :: h =>
      have hlen := fun x => (insertNode_perm x h).length_eq
      obtain ⟨root, hroot, hsym⟩ := ih (seq + 1)
        (h := insertNode { f := a.f + b.f, seq := seq, tree := .node a.tree b.tree } h)
        (List.ne_nil_of_length_pos (by simp [hlen])) (by simpa [hlen] using hfuel)
      refine ⟨root, hroot, (hsym.trans (forestSymbols_insertNode _ _)).trans (.of_eq ?_)⟩
      simp [forestSymbols, HTree.symbols, List.append_assoc]

/-- The depths of BUILD_TREE with two leaves or more are those of a tree over the used symbols. -/
theorem buildTree_of_two_leaves {freq : List Nat} (h : 2 ≤ (leaves freq).length) :
    ∃ t : HTree, t.symbols.Perm (leaves freq) ∧ buildTree freq = tableOf freq.length (t.depths 0) := by
  have hlen : (leafNodes freq).length = (leaves freq).length := by simpa using (leafNodes_perm freq).length_eq
  have hle := leaves_length_le freq
  obtain ⟨root, hroot, hsym⟩ := mergeNodes_root (fuel := freq.length) freq.length (h := leafNodes freq)
    (List.ne_nil_of_length_pos (by omega)) (by omega)
  refine ⟨root.tree, hsym.trans (forestSymbols_leafNodes freq), ?_⟩
  unfold buildTree
  split
  · next hnil => simp [hnil] at h
  · next hone => simp [hone] at h
  · rw [hroot]

theorem HTree.depths_pos {t : HTree} (h : 2 ≤ t.symbols.length) : ∀ x ∈ t.depths 0, 0 < x.2 := by
  cases t with
  | leaf s => simp [symbols] at h
  | node a b => exact List.forall_mem_append.2 ⟨a.le_depths 1, b.le_depths 1⟩

/-- BUILD_TREE gives a depth to each used symbol; two or more fill the code space. -/
theorem buildTree_assigns (freq : List Nat) :
    ∃ pairs, Assigns freq pairs ∧ buildTree freq = tableOf freq.length pairs ∧
      (2 ≤ (leaves freq).length → ∀ cap, (∀ x ∈ pairs, x.2 ≤ cap) →
        lengthSpace cap (pairs.map Prod.snd) = 2 ^ cap) := by
  rcases Nat.lt_or_ge (leaves freq).length 2 with hfew | htwo
  · refine ⟨(leaves freq).map fun s => (s, 1), ⟨by simp [Function.comp_def], by simp⟩, ?_,
      fun htwo => absurd hfew (not_lt.2 htwo)⟩
    unfold buildTree
    split
    · next hnil => simp [hnil, tableOf]
    · next hone => simp [hone]
    · next hnil hone =>
      match hl : leaves freq with
      | [] => exact absurd hl hnil
      | [s] => exact absurd hl (hone s)
      | _ :: _ :: _ => simp [hl] at hfew
  · obtain ⟨t, hsym, hdepth⟩ := buildTree_of_two_leaves htwo
    exact ⟨t.depths 0, ⟨.trans (.of_eq (t.depths_map_fst 0)) hsym, t.depths_pos (hsym.length_eq ▸ htwo)⟩, hdepth,
      fun _ _ => t.lengthSpace_depths⟩

/-! ### Limited lengths (41_huffman_builder.md R144, R145) -/

theorem insertSymbol_perm (freq depth : List Nat) (s : Nat) (o : List Nat) :
    (insertSymbol freq depth s o).Perm (s :: o) := by
  induction o with
  | nil => exact .refl _
  | cons t ts ih =>
    unfold insertSymbol
    split
    · exact .refl _
    · exact (ih.cons t).trans (.swap s t ts)

theorem assignOrder_perm (freq depth : List Nat) : (assignOrder freq depth).Perm (leaves freq) := by
  simpa [assignOrder] using foldl_insert_perm (insertSymbol_perm freq depth) id (leaves freq) []

theorem bucketLengths_length (l : Nat) (cnt : List Nat) : (bucketLengths l cnt).length = cnt.sum := by
  induction cnt generalizing l with
  | nil => rfl
  | cons c cs ih => simp [bucketLengths, ih]

theorem le_bucketLengths (l : Nat) (cnt : List Nat) : ∀ x ∈ bucketLengths l cnt, l ≤ x := by
  induction cnt generalizing l with
  | nil => simp [bucketLengths]
  | cons c cs ih =>
    exact List.forall_mem_append.2
      ⟨fun x hx => (List.mem_replicate.1 hx).2.ge, fun x hx => (Nat.le_succ l).trans (ih _ x hx)⟩

/-- The lengths the buckets hand out take the buckets' code space. -/
theorem lengthSpace_bucketLengths (l : Nat) (cnt : List Nat) :
    lengthSpace (l + cnt.length) (bucketLengths (l + 1) cnt) = codeSpace cnt := by
  induction cnt generalizing l with
  | nil => rfl
  | cons c cs ih =>
    have hcap : l + (c :: cs).length = l + 1 + cs.length := by rw [List.length_cons]; omega
    rw [bucketLengths, hcap, lengthSpace_append, ih (l + 1), codeSpace]
    simp [lengthSpace]

/-- Moving `k` leaves from one bucket to another keeps the leaves and exchanges the code space they take. -/
theorem sum_and_codeSpace_move {cnt : List Nat} {i j k : Nat} (hk : k ≤ entry cnt i) (hi : i < cnt.length)
    (hj : j < cnt.length) :
    ((cnt.modify i (· - k)).modify j (· + k)).sum = cnt.sum ∧
    codeSpace ((cnt.modify i (· - k)).modify j (· + k)) + k * 2 ^ (cnt.length - 1 - i) =
      codeSpace cnt + k * 2 ^ (cnt.length - 1 - j) := by
  have hj' : j < (cnt.modify i (· - k)).length := by rwa [List.length_modify]
  have hsum₁ := sum_modify (· - k) hi
  have hsum₂ := sum_modify (· + k) hj'
  have hspace₁ := codeSpace_modify (· - k) hi
  have hspace₂ := codeSpace_modify (· + k) hj'
  have hle := Nat.mul_le_mul_right (2 ^ (cnt.length - 1 - i)) hk
  rw [Nat.sub_mul] at hspace₁
  rw [List.length_modify, Nat.add_mul] at hspace₂
  omega

/-- Between the moves of LIMIT_LENGTHS: `cnt` has the buckets `1..cap`, `n` leaves and the overflow `overflow`. -/
structure Balanced (cap n : Nat) (cnt : List Nat) (overflow : Int) : Prop where
  length_eq : cnt.length = cap
  sum_eq : cnt.sum = n
  overflow_eq : overflow = overflowOf cnt cap

theorem sum_foldl_modify {cnt : List Nat} (i : Nat → Nat) (ls : List Nat) (hi : ∀ l, i l < cnt.length) :
    (ls.foldl (fun cnt l => cnt.modify (i l) (· + 1)) cnt).sum = cnt.sum + ls.length := by
  induction ls generalizing cnt with
  | nil => rfl
  | cons l ls ih =>
    have := sum_modify (· + 1) (hi l)
    rw [List.foldl_cons, ih (by simpa using hi), List.length_cons]
    omega

theorem bucketCounts_balanced (freq depth : List Nat) {cap : Nat} (hcap : 0 < cap) :
    Balanced cap (leaves freq).length (bucketCounts freq depth cap) (overflowOf (bucketCounts freq depth cap) cap) where
  length_eq := bucketCounts_length freq depth cap
  sum_eq := by
    rw [bucketCounts, sum_foldl_modify (fun s => min (entry depth s) cap - 1) _ (by simp; omega)]
    simp
  overflow_eq := rfl

theorem deepestBucket_spec {cnt : List Nat} {k b : Nat} (h : deepestBucket cnt k = some b) :
    1 ≤ b ∧ b ≤ k ∧ 0 < entry cnt (b - 1) := by
  induction k with
  | zero => cases h
  | succ k ih =>
    unfold deepestBucket at h
    split at h
    · next hpos =>
      cases h
      exact ⟨Nat.le_add_left .., le_rfl, hpos⟩
    · obtain ⟨hlow, hhigh, hpos⟩ := ih h
      exact ⟨hlow, hhigh.trans (Nat.le_succ k), hpos⟩

section
variable {cap n : Nat} {cnt cnt' : List Nat} {overflow overflow' : Int}

/-- Moving a leaf from bucket `b` to `b + 1` frees `2^(cap-1-b)` units. -/
theorem Balanced.after_moveDeeper {b : Nat} (h : Balanced cap n cnt overflow) (hlow : 1 ≤ b) (hhigh : b ≤ cap - 1)
    (hpos : 0 < entry cnt (b - 1)) : Balanced cap n (moveDeeper cnt b) (overflow - 2 ^ (cap - 1 - b)) := by
  obtain ⟨hlen, hsum, hover⟩ := h
  obtain ⟨hsum', hspace⟩ := sum_and_codeSpace_move (j := b) (k := 1) hpos (by omega) (by omega)
  have hexp : cap - 1 - (b - 1) = cap - 1 - b + 1 := by omega
  rw [hlen, hexp, Nat.pow_succ] at hspace
  have hfreed : codeSpace (moveDeeper cnt b) + 2 ^ (cap - 1 - b) = codeSpace cnt := by
    rw [moveDeeper]
    omega
  refine ⟨by simpa [moveDeeper] using hlen, hsum'.trans hsum, ?_⟩
  rw [hover, overflowOf, overflowOf, ← hfreed]
  push_cast
  omega

/-- The redistribution ends with nothing over. -/
theorem Balanced.after_redistribute {guard : Nat} (h : Balanced cap n cnt overflow)
    (hred : redistribute cap guard cnt overflow = some (cnt', overflow')) :
    Balanced cap n cnt' overflow' ∧ overflow' ≤ 0 := by
  induction guard generalizing cnt overflow with
  | zero =>
    unfold redistribute at hred
    split at hred
    · next hle => cases hred; exact ⟨h, hle⟩
    · cases hred
  | succ guard ih =>
    unfold redistribute at hred
    split at hred
    · next hle => cases hred; exact ⟨h, hle⟩
    · split at hred
      · next hg hb =>
        cases hg
        obtain ⟨hlow, hhigh, hpos⟩ := deepestBucket_spec hb
        exact ih (h.after_moveDeeper hlow hhigh hpos) hred
      · cases hred

/-- The repair keeps the leaves, and two or more then fill the code space exactly. -/
theorem Balanced.after_repairOvershoot (h : Balanced cap n cnt overflow) (hle : overflow ≤ 0)
    (hrep : repairOvershoot cap cnt overflow = some cnt') :
    cnt'.length = cap ∧ cnt'.sum = n ∧ (2 ≤ n → codeSpace cnt' = 2 ^ cap) := by
  obtain ⟨hlen, hsum, hover⟩ := h
  refine ⟨(repairOvershoot_length hrep).trans hlen, ?_⟩
  rw [overflowOf, ← Nat.cast_ofNat, ← Nat.cast_pow] at hover
  unfold repairOvershoot at hrep
  dsimp only at hrep
  split at hrep
  · next hneg =>
    split at hrep
    · cases hrep
    · next hk =>
      cases hrep
      have hlast : cap - 1 < cnt.length := lt_length_of_entry_pos (by omega)
      obtain ⟨hsum', hspace⟩ := sum_and_codeSpace_move (j := cap - 2) (not_lt.1 hk) hlast (by omega)
      refine ⟨hsum'.trans hsum, fun htwo => ?_⟩
      have hcap : cap ≠ 1 := by
        rintro rfl
        obtain ⟨c, rfl⟩ := List.length_eq_one_iff.1 hlen
        simp [codeSpace] at hsum hover
        omega
      have hexp₁ : cnt.length - 1 - (cap - 1) = 0 := by omega
      have hexp₂ : cnt.length - 1 - (cap - 2) = 1 := by omega
      rw [hexp₁, hexp₂] at hspace
      omega
  · next hneg =>
    cases hrep
    exact ⟨hsum, fun _ => by omega⟩

end

/-- What LIMIT_LENGTHS can answer. -/
theorem limitLengths_cases {freq depth len : List Nat} {cap : Nat} (h : limitLengths freq depth cap = .ok len) :
    ((∀ d ∈ depth, d ≤ cap) ∧ len = depth) ∨
    ∃ cnt overflow cnt', redistribute cap (freq.length * cap) (bucketCounts freq depth cap)
        (overflowOf (bucketCounts freq depth cap) cap) = some (cnt, overflow) ∧
      repairOvershoot cap cnt overflow = some cnt' ∧
      len = tableOf freq.length ((assignOrder freq depth).zip (bucketLengths 1 cnt')) := by
  unfold limitLengths at h
  split at h
  · next hall =>
    cases h
    exact .inl ⟨by simpa using hall, rfl⟩
  · dsimp only at h
    split at h
    · cases h
    · next cnt overflow hred =>
      split at h
      · cases h
      · next cnt' hrep =>
        cases h
        exact .inr ⟨cnt, overflow, cnt', hred, hrep, rfl⟩

/-- With no bucket at all the repair fails. -/
theorem cap_pos_of_limited {freq depth cnt cnt' : List Nat} {cap guard : Nat} {overflow : Int}
    (hred : redistribute cap guard (bucketCounts freq depth cap) (overflowOf (bucketCounts freq depth cap) cap) =
      some (cnt, overflow)) (hrep : repairOvershoot cap cnt overflow = some cnt') : 0 < cap := by
  by_contra hcap
  obtain rfl : cap = 0 := by omega
  have hend : redistribute 0 guard [] (overflowOf [] 0) = some ([], -1) := by
    unfold redistribute
    simp [overflowOf, codeSpace]
  rw [List.length_eq_zero_iff.1 (bucketCounts_length freq depth 0), hend] at hred
  cases hred
  simp [repairOvershoot] at hrep

/-- Limiting hands each used symbol one of the buckets' lengths. -/
theorem zip_assigns (freq depth : List Nat) {cnt : List Nat} (hsum : cnt.sum = (leaves freq).length) :
    Assigns freq ((assignOrder freq depth).zip (bucketLengths 1 cnt)) ∧
    ((assignOrder freq depth).zip (bucketLengths 1 cnt)).map Prod.snd = bucketLengths 1 cnt := by
  have hlen : (assignOrder freq depth).length = (bucketLengths 1 cnt).length := by
    rw [(assignOrder_perm freq depth).length_eq, bucketLengths_length, hsum]
  refine ⟨⟨?_, fun x hx => le_bucketLengths 1 cnt _ (List.of_mem_zip hx).2⟩, List.map_snd_zip hlen.ge⟩
  rw [List.map_fst_zip hlen.le]
  exact assignOrder_perm freq depth

/-! ### The canonical codes (41_huffman_builder.md R146, R147) -/

/-- How many symbols have a code of length `l`, the `COUNT[l]` of R146. -/
def codesOfLength (len : List Nat) (l : Nat) : Nat := if l = 0 then 0 else len.count l

/-- The first code of length `l`, the `NEXT[l]` of R146 before any code is handed out. -/
def firstCode (len : List Nat) : Nat → Nat
  | 0 => 0
  | l + 1 => (firstCode len l + codesOfLength len l) * 2

theorem codesOfLength_zero (len : List Nat) : codesOfLength len 0 = 0 := rfl

theorem codesOfLength_of_pos (len : List Nat) {l : Nat} (hl : 0 < l) : codesOfLength len l = len.count l :=
  if_neg hl.ne'

theorem entry_foldl_modify {cnt : List Nat} (ls : List Nat) {j : Nat} (hj : j < cnt.length) :
    entry (ls.foldl (fun cnt l => cnt.modify l (· + 1)) cnt) j = entry cnt j + ls.count j := by
  induction ls generalizing cnt with
  | nil => rfl
  | cons l ls ih =>
    rw [List.foldl_cons, ih (by simpa using hj), entry_modify _ hj, List.count_cons]
    simp only [beq_iff_eq]
    split <;> omega

theorem foldl_modify_length (ls cnt : List Nat) :
    (ls.foldl (fun cnt l => cnt.modify l (· + 1)) cnt).length = cnt.length := by
  induction ls generalizing cnt with
  | nil => rfl
  | cons l ls ih => rw [List.foldl_cons, ih, List.length_modify]

theorem lengthCounts_length (len : List Nat) (cap : Nat) : (lengthCounts len cap).length = cap + 1 := by
  rw [lengthCounts, List.length_set, foldl_modify_length, List.length_replicate]

theorem entry_lengthCounts (len : List Nat) {cap l : Nat} (hl : l ≤ cap) :
    entry (lengthCounts len cap) l = codesOfLength len l := by
  cases l with
  | zero =>
    have hpos : 0 < (lengthCounts len cap).length := by simp [lengthCounts_length]
    rw [lengthCounts, List.length_set] at hpos
    simp [entry, lengthCounts, codesOfLength_zero, List.getElem?_set_self hpos]
  | succ l =>
    have hcount := entry_foldl_modify (cnt := List.replicate (cap + 1) 0) len (j := l + 1) (by simpa using hl)
    rw [entry_replicate_zero, Nat.zero_add] at hcount
    rw [codesOfLength_of_pos len l.succ_pos, ← hcount]
    simp [entry, lengthCounts]

@[simp] theorem firstCodes_length (c : Nat) (ks : List Nat) : (firstCodes c ks).length = ks.length := by
  induction ks generalizing c with
  | nil => rfl
  | cons k ks ih => simp [firstCodes, ih]

theorem entry_firstCodes_succ {ks : List Nat} {i : Nat} (c : Nat) (hi : i + 1 < ks.length) :
    entry (firstCodes c ks) (i + 1) = (entry (firstCodes c ks) i + entry ks (i + 1)) * 2 := by
  induction ks generalizing c i with
  | nil => simp at hi
  | cons k ks ih =>
    cases i with
    | zero =>
      cases ks with
      | nil => simp at hi
      | cons k' ks => rfl
    | succ i => simpa [firstCodes] using ih ((c + k) * 2) (by simpa using hi)

/-- CANON starts each length at its first code. -/
theorem entry_firstCodes (len : List Nat) {cap l : Nat} (hl : l < cap) :
    entry (firstCodes 0 ((lengthCounts len cap).take cap)) l = firstCode len (l + 1) := by
  have hlen : ((lengthCounts len cap).take cap).length = cap := by simp [lengthCounts_length]
  induction l with
  | zero =>
    have hzero : entry ((lengthCounts len cap).take cap) 0 = 0 := by
      rw [entry_take hl, entry_lengthCounts len (by omega), codesOfLength_zero]
    generalize (lengthCounts len cap).take cap = ks at hlen hzero
    cases ks with
    | nil => simp at hlen; omega
    | cons k ks => simpa [firstCodes, firstCode, codesOfLength_zero] using hzero
  | succ l ih =>
    rw [entry_firstCodes_succ 0 (by omega), ih (by omega), entry_take hl, entry_lengthCounts len (by omega), firstCode,
      firstCode, firstCode]

@[simp] theorem assignCodes_length (next len : List Nat) : (assignCodes next len).length = len.length := by
  induction len generalizing next with
  | nil => rfl
  | cons l ls ih =>
    unfold assignCodes
    split <;> simp [ih]

/-- A symbol gets its length's next code plus one for each earlier symbol of that length. -/
theorem entry_assignCodes {next len : List Nat} {s : Nat} (hnext : ∀ l ∈ len, l ≤ next.length) (hs : 0 < entry len s) :
    entry (assignCodes next len) s = entry next (entry len s - 1) + (len.take s).count (entry len s) := by
  induction len generalizing next s with
  | nil => simp at hs
  | cons l ls ih =>
    obtain ⟨hl, hls⟩ := List.forall_mem_cons.1 hnext
    cases s with
    | zero =>
      have hl : l ≠ 0 := Nat.pos_iff_ne_zero.1 (by simpa using hs)
      simp [assignCodes, hl]
    | succ s =>
      rw [entry_cons_succ] at hs
      have hle := entry_le hls s
      rw [assignCodes, entry_cons_succ, List.take_succ_cons, List.count_cons]
      split
      · next hl => simp [ih hls hs, hl, hs.ne]
      · next hl =>
        have hsame : l - 1 = entry ls s - 1 ↔ l = entry ls s := by omega
        rw [entry_cons_succ, ih (by simpa using hls) hs, entry_modify _ (by omega)]
        simp only [hsame, beq_iff_eq]
        split <;> omega

@[simp] theorem canonMsb_length (len : List Nat) (cap : Nat) : (canonMsb len cap).length = len.length :=
  assignCodes_length ..

/-- The canonical code of a symbol: its length's first code plus its rank among the symbols of that length. -/
theorem entry_canonMsb {len : List Nat} {cap s : Nat} (hcap : ∀ l ∈ len, l ≤ cap) (hs : 0 < entry len s) :
    entry (canonMsb len cap) s = firstCode len (entry len s) + (len.take s).count (entry len s) := by
  have hle := entry_le hcap s
  rw [canonMsb, entry_assignCodes (by simpa [lengthCounts_length] using hcap) hs, entry_firstCodes len (by omega),
    Nat.sub_add_cancel hs]

section
variable {len : List Nat} {s t : Nat}

theorem count_take_succ (hs : s < len.length) (l : Nat) :
    (len.take (s + 1)).count l = (len.take s).count l + if entry len s = l then 1 else 0 := by
  have hentry : entry len s = len[s] := by simp [entry, hs]
  rw [List.take_succ_eq_append_getElem hs, List.count_append, List.count_singleton, hentry]
  simp

/-- A symbol's rank is below that of every later symbol of its length. -/
theorem rank_lt (hs : 0 < entry len s) (hst : s < t) :
    (len.take s).count (entry len s) < (len.take t).count (entry len s) := by
  have hsucc := count_take_succ (lt_length_of_entry_pos hs) (entry len s)
  have hmono := (List.take_sublist_take_left (l := len) (Nat.succ_le_of_lt hst)).count_le (entry len s)
  rw [if_pos rfl] at hsucc
  simp only [Nat.succ_eq_add_one] at hmono
  omega

theorem rank_lt_codesOfLength (hs : 0 < entry len s) :
    (len.take s).count (entry len s) < codesOfLength len (entry len s) := by
  rw [codesOfLength_of_pos len hs]
  exact (rank_lt hs (lt_length_of_entry_pos hs)).trans_eq (by rw [List.take_length])

/-- The rank stays where no symbol has the length. -/
theorem rank_skip (hst : s + 1 ≤ t) (ht : t ≤ len.length) {l : Nat} (hskip : ∀ u, s < u → u < t → entry len u ≠ l) :
    (len.take t).count l = (len.take (s + 1)).count l := by
  induction t, hst using Nat.le_induction with
  | base => rfl
  | succ t hst ih =>
    rw [count_take_succ (by omega), ih (by omega) fun u hu hut => hskip u hu (by omega),
      if_neg (hskip t (by omega) (by omega)), Nat.add_zero]

end

/-- Settles O26: from one symbol to the next of its length the rank grows by one. -/
theorem equalLengthCodesAreConsecutive : Obligations.EqualLengthCodesAreConsecutive := by
  unfold Obligations.EqualLengthCodesAreConsecutive
  intro len cap s t hcap hst ht hs heq hskip
  have hrank := rank_skip hst ht.le hskip
  rw [count_take_succ (by omega), if_pos rfl] at hrank
  rw [entry_canonMsb hcap hs, entry_canonMsb hcap (heq ▸ hs), heq, hrank, Nat.add_assoc]

/-- CANON stores the canonical code bit-reversed (R147). -/
theorem entry_canon (len : List Nat) (cap s : Nat) :
    entry (canon len cap) s = bitrev (entry (canonMsb len cap) s) (entry len s) := by
  by_cases hs : s < len.length
  · simp [entry, canon, hs]
  · rw [entry_of_length_le (by simpa [canon] using hs), entry_of_length_le (t := len) (not_lt.1 hs), bitrev]

theorem canon_length (len : List Nat) (cap : Nat) : (canon len cap).length = len.length := by simp [canon]

/-- Every longer length starts past the codes of length `l`, extended. -/
theorem codes_le_firstCode (len : List Nat) (l k : Nat) :
    (firstCode len l + codesOfLength len l) * 2 ^ (k + 1) ≤ firstCode len (l + (k + 1)) := by
  induction k with
  | zero => simp [firstCode]
  | succ k ih =>
    rw [← Nat.add_assoc, firstCode, Nat.pow_succ, ← Nat.mul_assoc]
    exact Nat.mul_le_mul_right 2 (ih.trans (Nat.le_add_right ..))

theorem firstCode_nil (l : Nat) : firstCode [] l = 0 := by
  induction l with
  | zero => rfl
  | succ l ih => simp [firstCode, ih, codesOfLength]

theorem codesOfLength_cons (x : Nat) (len : List Nat) (l : Nat) :
    codesOfLength (x :: len) l = codesOfLength len l + if 0 < x ∧ x = l then 1 else 0 := by
  unfold codesOfLength
  simp only [List.count_cons, beq_iff_eq]
  split_ifs <;> omega

/-- A code of length `x` moves the first code of every longer length on by its share of the code space. -/
theorem firstCode_cons (x : Nat) (len : List Nat) (l : Nat) :
    firstCode (x :: len) l = firstCode len l + if 0 < x ∧ x < l then 2 ^ (l - x) else 0 := by
  induction l with
  | zero => simp [firstCode]
  | succ l ih =>
    rw [firstCode, firstCode, ih, codesOfLength_cons]
    rcases lt_trichotomy x l with hlt | rfl | hgt
    · rw [Nat.succ_sub hlt.le, Nat.pow_succ]
      split_ifs <;> omega
    · rw [Nat.add_sub_cancel_left]
      split_ifs <;> omega
    · split_ifs <;> omega

/-- Past the cap the codes have taken exactly the code space of their lengths. -/
theorem firstCode_cap_succ {len : List Nat} {cap : Nat} (hcap : ∀ l ∈ len, l ≤ cap) :
    firstCode len (cap + 1) = lengthSpace cap (len.filter fun x => decide (0 < x)) * 2 := by
  induction len with
  | nil => rw [firstCode_nil]; rfl
  | cons x len ih =>
    obtain ⟨hx, hlen⟩ := List.forall_mem_cons.1 hcap
    rw [firstCode_cons, ih hlen, List.filter_cons]
    simp only [decide_eq_true_eq]
    by_cases hpos : 0 < x
    · rw [if_pos ⟨hpos, by omega⟩, if_pos hpos, Nat.succ_sub hx, Nat.pow_succ]
      simp only [lengthSpace, List.map_cons, List.sum_cons]
      omega
    · rw [if_neg (by omega), if_neg hpos, Nat.add_zero]

/-- Where the lengths fit the code space, the codes of each length are numbers of that length. -/
theorem codes_le_two_pow {len : List Nat} {cap l : Nat} (hcap : ∀ l ∈ len, l ≤ cap)
    (hspace : lengthSpace cap (len.filter fun x => decide (0 < x)) ≤ 2 ^ cap) (hl : l ≤ cap) :
    firstCode len l + codesOfLength len l ≤ 2 ^ l := by
  obtain ⟨k, rfl⟩ := Nat.exists_eq_add_of_le hl
  have hfirst := codes_le_firstCode len l k
  rw [← Nat.add_assoc, firstCode_cap_succ hcap] at hfirst
  refine Nat.le_of_mul_le_mul_right ?_ (Nat.two_pow_pos (k + 1))
  calc (firstCode len l + codesOfLength len l) * 2 ^ (k + 1)
      ≤ lengthSpace (l + k) (len.filter fun x => decide (0 < x)) * 2 := hfirst
    _ ≤ 2 ^ (l + k) * 2 := Nat.mul_le_mul_right 2 hspace
    _ = 2 ^ l * 2 ^ (k + 1) := by ring

/-- No canonical code is a prefix of another, whatever the lengths. -/
theorem canonMsb_not_prefix {len : List Nat} {cap s t : Nat} (hcap : ∀ l ∈ len, l ≤ cap) (hs : 0 < entry len s)
    (ht : 0 < entry len t) (hne : s ≠ t) (hle : entry len s ≤ entry len t) :
    entry (canonMsb len cap) t / 2 ^ (entry len t - entry len s) ≠ entry (canonMsb len cap) s := by
  rw [entry_canonMsb hcap hs, entry_canonMsb hcap ht]
  rcases hle.eq_or_lt with heq | hlt
  · rw [← heq, Nat.sub_self, Nat.pow_zero, Nat.div_one]
    rcases lt_or_gt_of_ne hne with hst | hts
    · have := rank_lt hs hst
      omega
    · have := rank_lt ht hts
      rw [← heq] at this
      omega
  · obtain ⟨k, hk⟩ := Nat.exists_eq_add_of_lt hlt
    have hrank := rank_lt_codesOfLength hs
    have hfirst := codes_le_firstCode len (entry len s) k
    have hexp : entry len t - entry len s = k + 1 := by omega
    rw [← Nat.add_assoc, ← hk] at hfirst
    have hdiv := (Nat.le_div_iff_mul_le (Nat.two_pow_pos (k + 1))).2
      (hfirst.trans (Nat.le_add_right _ ((len.take t).count (entry len t))))
    rw [hexp]
    omega

/-! ### NUMCODES (41_huffman_builder.md R148) -/

theorem lt_usedUpTo {len : List Nat} {i : Nat} (s : Nat) (h : 0 < entry len i) : s + i < usedUpTo s len := by
  induction len generalizing s i with
  | nil => simp at h
  | cons l ls ih =>
    rw [usedUpTo]
    cases i with
    | zero => rw [if_pos (by simpa using h)]; omega
    | succ i =>
      have := ih (s + 1) (by simpa using h)
      omega

theorem usedUpTo_eq (s : Nat) (len : List Nat) :
    usedUpTo s len = 0 ∨ ∃ i, usedUpTo s len = s + i + 1 ∧ 0 < entry len i := by
  induction len generalizing s with
  | nil => exact .inl rfl
  | cons l ls ih =>
    rw [usedUpTo]
    rcases ih (s + 1) with h | ⟨i, h, hi⟩
    · rw [h, Nat.max_zero]
      split
      · next hl => exact .inr ⟨0, rfl, hl⟩
      · exact .inl rfl
    · exact .inr ⟨i + 1, by split <;> omega, hi⟩

/-- Settles O28: `lt_usedUpTo` for the bound, `usedUpTo_eq` for its being reached. -/
theorem numCodesCutsAfterLastUsed : Obligations.NumCodesCutsAfterLastUsed := by
  unfold Obligations.NumCodesCutsAfterLastUsed
  refine fun len minCodes => ⟨le_max_left .., fun s hs => ?_, ?_⟩
  · have := lt_usedUpTo 0 hs
    unfold numCodes
    omega
  · rcases le_total (usedUpTo 0 len) minCodes with hle | hle
    · exact .inl (max_eq_left hle)
    · rw [numCodes, max_eq_right hle]
      rcases usedUpTo_eq 0 len with h | ⟨i, h, hi⟩
      · exact .inl (by omega)
      · exact .inr (by rwa [h, Nat.add_sub_cancel, Nat.zero_add])

/-! ### Every result of BUILD_CODE (41_huffman_builder.md R143, R150) -/

/-- What BUILD_CODE returns, part by part. -/
theorem buildCode_parts {freq : List Nat} {minCodes cap : Nat} {b : Built} (h : buildCode freq minCodes cap = .ok b) :
    limitLengths freq (buildTree freq) cap = .ok b.table.len ∧ b.table.code = canon b.table.len cap := by
  unfold buildCode at h
  split at h
  · cases h
  · next len hlen =>
    cases h
    exact ⟨hlen, rfl⟩

/-- BUILD_CODE gives each used symbol a length; those of two or more symbols fill the code space. -/
theorem buildCode_assigns {freq : List Nat} {minCodes cap : Nat} {b : Built}
    (h : buildCode freq minCodes cap = .ok b) :
    ∃ pairs, Assigns freq pairs ∧ b.table.len = tableOf freq.length pairs ∧
      (2 ≤ (leaves freq).length → lengthSpace cap (pairs.map Prod.snd) = 2 ^ cap) := by
  rcases limitLengths_cases (buildCode_parts h).1 with ⟨hall, hlen⟩ | ⟨cnt, overflow, cnt', hred, hrep, hlen⟩
  · obtain ⟨pairs, hassigns, hdepth, hspace⟩ := buildTree_assigns freq
    refine ⟨pairs, hassigns, hlen.trans hdepth, fun htwo => hspace htwo cap fun x hx => ?_⟩
    rw [← hassigns.entry_eq hx]
    exact entry_le (hdepth ▸ hall) x.1
  · have hcap := cap_pos_of_limited hred hrep
    obtain ⟨hbal, hle⟩ := (bucketCounts_balanced freq (buildTree freq) hcap).after_redistribute hred
    obtain ⟨hlength, hsum, hspace⟩ := hbal.after_repairOvershoot hle hrep
    obtain ⟨hassigns, hsnd⟩ := zip_assigns freq (buildTree freq) hsum
    refine ⟨_, hassigns, hlen, fun htwo => ?_⟩
    have hbuckets := lengthSpace_bucketLengths 0 cnt'
    rwa [Nat.zero_add, hlength, hspace htwo, ← hsnd] at hbuckets

section
variable {freq : List Nat} {minCodes cap : Nat} {b : Built} (h : buildCode freq minCodes cap = .ok b)
include h

theorem buildCode_len_le : ∀ l ∈ b.table.len, l ≤ cap := limitLengths_le (buildCode_parts h).1

theorem buildCode_entry_pos_iff {s : Nat} : 0 < entry b.table.len s ↔ 0 < entry freq s := by
  obtain ⟨pairs, hassigns, hlen, -⟩ := buildCode_assigns h
  rw [hlen, hassigns.entry_pos_iff]

theorem buildCode_entry_eq_zero_iff {s : Nat} : entry b.table.len s = 0 ↔ entry freq s = 0 := by
  have := buildCode_entry_pos_iff h (s := s)
  omega

/-- The lengths of two or more used symbols fill the code space exactly. -/
theorem lengthSpace_of_two_leaves (htwo : 2 ≤ (leaves freq).length) :
    lengthSpace cap ((leaves freq).map (entry b.table.len)) = 2 ^ cap := by
  obtain ⟨pairs, hassigns, hlen, hspace⟩ := buildCode_assigns h
  rw [hlen, lengthSpace_perm hassigns.lengths_perm, hspace htwo]

/-- The lengths of the used symbols fit the code space. -/
theorem lengthSpace_le : lengthSpace cap ((leaves freq).map (entry b.table.len)) ≤ 2 ^ cap := by
  match hl : leaves freq with
  | [] => exact Nat.zero_le _
  | [s] => simpa [lengthSpace] using Nat.pow_le_pow_right two_pos (Nat.sub_le cap (entry b.table.len s))
  | _ :: _ :: _ => exact hl ▸ (lengthSpace_of_two_leaves h (by simp [hl])).le

/-- The symbols with a code are the used ones. -/
theorem leaves_len : leaves b.table.len = leaves freq := by
  obtain ⟨-, hlen, -⟩ := buildCode_ok h
  exact leaves_congr hlen fun _ _ => buildCode_entry_eq_zero_iff h

/-- Every used symbol's code is a number of its length. -/
theorem canonMsb_lt {s : Nat} (hs : 0 < entry b.table.len s) :
    entry (canonMsb b.table.len cap) s < 2 ^ entry b.table.len s := by
  have hspace := lengthSpace_le h
  rw [← leaves_len h, map_entry_leaves] at hspace
  have hcodes := codes_le_two_pow (buildCode_len_le h) hspace (entry_le (buildCode_len_le h) s)
  have hrank := rank_lt_codesOfLength hs
  rw [entry_canonMsb (buildCode_len_le h) hs]
  omega

end

/-- Settles O27: `bits_bitrev` at every symbol's code. -/
theorem codesGoOutMsbFirst : Obligations.CodesGoOutMsbFirst := by
  unfold Obligations.CodesGoOutMsbFirst
  intro freq minCodes cap b h s
  obtain ⟨-, hcode⟩ := buildCode_parts h
  rw [CodeTable.field, BitField.bits, hcode, entry_canon, bits_bitrev]

/-- Settles O23: the lengths are a table over the used symbols (`buildCode_assigns`). -/
theorem unusedSymbolsHaveNoCode : Obligations.UnusedSymbolsHaveNoCode := by
  unfold Obligations.UnusedSymbolsHaveNoCode
  intro freq minCodes cap b h
  obtain ⟨-, hlen, -⟩ := buildCode_ok h
  obtain ⟨-, hcode⟩ := buildCode_parts h
  exact ⟨hlen, by rw [hcode, canon_length, hlen], fun s _ => buildCode_entry_eq_zero_iff h⟩

/-- Settles O24: the tree fills the code space, and so do the buckets after the repair (`buildCode_assigns`). -/
theorem codeLengthsFillTheSpace : Obligations.CodeLengthsFillTheSpace := by
  unfold Obligations.CodeLengthsFillTheSpace
  intro freq minCodes cap b htwo h
  refine ⟨fun s hs => ⟨(buildCode_entry_pos_iff h).2 (mem_leaves.1 hs), entry_le (buildCode_len_le h) s⟩, ?_⟩
  simpa [lengthSpace, total_eq_sum, Function.comp_def] using lengthSpace_of_two_leaves h htwo

/-- Settles O25: `canonMsb_lt` for the width, `canonMsb_not_prefix` for the prefixes. -/
theorem codesArePrefixFree : Obligations.CodesArePrefixFree := by
  unfold Obligations.CodesArePrefixFree
  intro freq minCodes cap b h
  have hpos : ∀ s ∈ leaves freq, 0 < entry b.table.len s := fun s hs =>
    (buildCode_entry_pos_iff h).2 (mem_leaves.1 hs)
  exact ⟨fun s hs => canonMsb_lt h (hpos s hs), fun s hs t ht =>
    canonMsb_not_prefix (buildCode_len_le h) (hpos s hs) (hpos t ht)⟩

end Sys2Proof.Machine

/-! PROOFS of the family 42_block_coordinator.md: SELECT (R166), the check of RESET_BLOCK (R176), run-length coding
(R163), CLOSE_BLOCK as the row SELECT takes (R160), the two exact estimates (R164), and the empty final block (R177). -/

namespace Sys2Proof.Machine

open Claims

/-! ### SELECT (42_block_coordinator.md R166) -/

theorem storedCheapest_iff (c : Costs) :
    c.storedCheapest = true ↔ ∃ b, c.stored = some b ∧ b < c.fixed ∧ b < c.dynamic := by
  unfold Costs.storedCheapest
  cases c.stored <;> simp

theorem storedCheapest_eq_false_iff (c : Costs) :
    c.storedCheapest = false ↔ ∀ b, c.stored = some b → c.fixed ≤ b ∨ c.dynamic ≤ b := by
  rw [← Bool.not_eq_true, storedCheapest_iff]
  simp only [not_exists, not_and_or, not_lt, imp_iff_not_or]

theorem select_eq_stored_iff (c : Costs) : select c = .stored ↔ c.storedCheapest = true := by
  unfold select
  split_ifs <;> simp_all

theorem select_eq_fixed_iff (c : Costs) : select c = .fixed ↔ c.storedCheapest = false ∧ c.fixed ≤ c.dynamic := by
  unfold select
  split_ifs <;> simp_all

theorem select_eq_dynamic_iff (c : Costs) : select c = .dynamic ↔ c.storedCheapest = false ∧ c.dynamic < c.fixed := by
  unfold select
  split_ifs <;> simp_all

/-- Settles O33: SELECT is two comparisons, and `storedCheapest` is what the first of them says. -/
theorem selectTakesCheapest : Obligations.SelectTakesCheapest := by
  unfold Obligations.SelectTakesCheapest
  intro c
  rw [← storedCheapest_iff, ← storedCheapest_eq_false_iff]
  exact ⟨select_eq_stored_iff c, select_eq_fixed_iff c, select_eq_dynamic_iff c⟩

/-! ### The check of RESET_BLOCK (42_block_coordinator.md R176, 60_exceptions.md R226) -/

theorem closeBlock_trap_ne_freqNonzero (final : Bool) (s : State) :
    Ends (fun code _ => code ≠ .freqNonzero) (fun _ => True) (closeBlock final s) :=
  closeBlock_ends (by simp) fun _ _ _ _ => trivial

theorem trap_ne_freqNonzero_kept : KeptInStep (fun code _ => code ≠ .freqNonzero) fun _ => True where
  fill _ _ _ := fill_ends fun _ _ => trivial
  tally _ _ _ := tally_ends (fun _ => closeBlock_trap_ne_freqNonzero false _) fun _ => trivial
  close final s _ := closeBlock_trap_ne_freqNonzero final s
  progress _ _ := trivial

/-- Settles O36: the one trap of a micro-operation of STEP is that of the sizing. -/
theorem freqNonzeroNeverRaised : Obligations.FreqNonzeroNeverRaised := by
  unfold Obligations.FreqNonzeroNeverRaised
  intro fl s u v h
  by_cases hp : s.phase = .done
  · rw [runStep, if_pos hp] at h
    cases h
  · have hend := trap_ne_freqNonzero_kept.runStep_ends (Q := fun _ => True) (fl := fl) (s := s) trivial hp
      (fun _ _ => trivial) (fun _ _ _ _ _ => trivial) fun _ _ _ => trivial
    rw [h] at hend
    exact hend rfl

/-! ### Run-length coding (42_block_coordinator.md R163, 30_encoding.md R88) -/

/-- How many extra bits follow code-length symbol `c` (30_encoding.md R88). -/
def clExtra (c : Nat) : Nat := if c = 16 then 2 else if c = 17 then 3 else if c = 18 then 7 else 0

/-- A code-length symbol of the alphabet with as many extra bits as it has there. -/
def ClSym.OfAlphabet (c : ClSym) : Prop := c.sym ≤ 18 ∧ c.eb = clExtra c.sym

theorem plainCl_ofAlphabet {v : Nat} (hv : v ≤ 15) : (plainCl v).OfAlphabet := by
  have h₁ : v ≠ 16 := by omega
  have h₂ : v ≠ 17 := by omega
  have h₃ : v ≠ 18 := by omega
  exact ⟨hv.trans (by decide), by simp [plainCl, clExtra, h₁, h₂, h₃]⟩

theorem zeroRun_ofAlphabet (fuel run : Nat) : ∀ c ∈ zeroRun fuel run, c.OfAlphabet := by
  induction fuel generalizing run with
  | zero => simp [zeroRun]
  | succ fuel ih =>
    unfold zeroRun
    split
    · exact List.forall_mem_cons.2 ⟨⟨le_rfl, rfl⟩, ih _⟩
    · split
      · exact List.forall_mem_singleton.2 ⟨Nat.le_succ 17, rfl⟩
      · exact fun c hc => (List.mem_replicate.1 hc).2 ▸ plainCl_ofAlphabet (by decide)

theorem repeatRun_ofAlphabet {v : Nat} (hv : v ≤ 15) (fuel run : Nat) : ∀ c ∈ repeatRun v fuel run, c.OfAlphabet := by
  induction fuel generalizing run with
  | zero => simp [repeatRun]
  | succ fuel ih =>
    unfold repeatRun
    split
    · exact List.forall_mem_cons.2 ⟨⟨Nat.le_add_right 16 2, rfl⟩, ih _⟩
    · exact fun c hc => (List.mem_replicate.1 hc).2 ▸ plainCl_ofAlphabet hv

theorem runSymbols_ofAlphabet {v : Nat} (hv : v ≤ 15) (run : Nat) : ∀ c ∈ runSymbols v run, c.OfAlphabet := by
  unfold runSymbols
  split
  · exact zeroRun_ofAlphabet _ _
  · exact List.forall_mem_cons.2 ⟨plainCl_ofAlphabet hv, repeatRun_ofAlphabet hv _ _⟩

/-- The maximal runs, written out, are the sequence. -/
theorem maximalRuns_flatMap (seq : List Nat) : ((maximalRuns seq).flatMap fun r => List.replicate r.2 r.1) = seq := by
  induction seq with
  | nil => rfl
  | cons v vs ih =>
    unfold maximalRuns
    split
    · next heq =>
      rw [heq] at ih
      simp [← ih]
    · next heq =>
      rw [heq] at ih
      split
      · next hv => simp [← ih, hv, List.replicate_succ]
      · simp [← ih]

theorem maximalRuns_value_mem {seq : List Nat} {r : Nat × Nat} (hr : r ∈ maximalRuns seq) : r.1 ∈ seq := by
  rw [← maximalRuns_flatMap seq]
  exact List.mem_flatMap.2 ⟨r, hr, List.mem_replicate.2 ⟨Nat.one_le_iff_ne_zero.1 (maximalRuns_pos seq r hr), rfl⟩⟩

theorem rle_ofAlphabet {seq : List Nat} (hseq : ∀ l ∈ seq, l ≤ 15) : ∀ c ∈ rle seq, c.OfAlphabet := by
  intro c hc
  obtain ⟨r, hr, hc⟩ := List.mem_flatMap.1 hc
  exact runSymbols_ofAlphabet (hseq r.1 (maximalRuns_value_mem hr)) r.2 c hc

/-! What the symbols mean, piece by piece. -/

theorem expand_plainCl {v : Nat} (hv : v ≤ 15) (h : List Nat) : (plainCl v).expand h = h ++ [v] := by
  have h₁ : v ≠ 16 := by omega
  have h₂ : v ≠ 17 := by omega
  have h₃ : v ≠ 18 := by omega
  simp [ClSym.expand, plainCl, h₁, h₂, h₃]

theorem foldl_expand_plain {v : Nat} (hv : v ≤ 15) (run : Nat) (h : List Nat) :
    (List.replicate run (plainCl v)).foldl ClSym.expand h = h ++ List.replicate run v := by
  induction run generalizing h with
  | zero => simp
  | succ run ih => rw [List.replicate_succ, List.foldl_cons, expand_plainCl hv, ih, List.replicate_succ]; simp

theorem foldl_expand_zeroRun {fuel run : Nat} (hfuel : run ≤ fuel) (h : List Nat) :
    (zeroRun fuel run).foldl ClSym.expand h = h ++ List.replicate run 0 := by
  induction fuel generalizing run h with
  | zero => simp [zeroRun, Nat.le_zero.1 hfuel]
  | succ fuel ih =>
    unfold zeroRun
    split
    · have hpiece : min run 138 - 11 + 11 + (run - min run 138) = run := by omega
      rw [List.foldl_cons, ih (by omega)]
      simp [ClSym.expand, hpiece]
    · split
      · have hpiece : run - 3 + 3 = run := by omega
        simp [ClSym.expand, hpiece]
      · exact foldl_expand_plain (by decide) run h

theorem foldl_expand_repeatRun {v fuel run : Nat} (hv : v ≤ 15) (hfuel : run ≤ fuel) {h : List Nat}
    (hlast : h.getLastD 0 = v) : (repeatRun v fuel run).foldl ClSym.expand h = h ++ List.replicate run v := by
  induction fuel generalizing run h with
  | zero => simp [repeatRun, Nat.le_zero.1 hfuel]
  | succ fuel ih =>
    unfold repeatRun
    split
    · have hpiece : min run 6 - 3 + 3 + (run - min run 6) = run := by omega
      have hstep : ClSym.expand h { sym := 16, ev := min run 6 - 3, eb := 2 } =
          h ++ List.replicate (min run 6 - 3 + 3) v := by rw [← hlast]; rfl
      rw [List.foldl_cons, hstep, ih (by omega) (by simp [List.getLast?_replicate]), List.append_assoc,
        List.replicate_append_replicate, hpiece]
    · exact foldl_expand_plain hv run h

theorem foldl_expand_runSymbols {v run : Nat} (hv : v ≤ 15) (hrun : 1 ≤ run) (h : List Nat) :
    (runSymbols v run).foldl ClSym.expand h = h ++ List.replicate run v := by
  unfold runSymbols
  split
  · next hzero => rw [foldl_expand_zeroRun le_rfl, hzero]
  · rw [List.foldl_cons, expand_plainCl hv, foldl_expand_repeatRun hv le_rfl (by simp), List.append_assoc,
      List.singleton_append, ← List.replicate_succ, Nat.sub_add_cancel hrun]

theorem foldl_expand_runs {runs : List (Nat × Nat)} (h : List Nat) (hruns : ∀ r ∈ runs, r.1 ≤ 15 ∧ 1 ≤ r.2) :
    (runs.flatMap fun r => runSymbols r.1 r.2).foldl ClSym.expand h =
      h ++ runs.flatMap fun r => List.replicate r.2 r.1 := by
  induction runs generalizing h with
  | nil => simp
  | cons r runs ih =>
    obtain ⟨⟨hv, hrun⟩, hruns⟩ := List.forall_mem_cons.1 hruns
    rw [List.flatMap_cons, List.foldl_append, foldl_expand_runSymbols hv hrun, ih _ hruns, List.flatMap_cons,
      List.append_assoc]

/-- Settles O32: each maximal run is expanded to itself (`foldl_expand_runSymbols`), and its symbols are of the alphabet
with extra values that fit. -/
theorem runLengthCodingIsLossless : Obligations.RunLengthCodingIsLossless := by
  unfold Obligations.RunLengthCodingIsLossless
  intro seq hseq
  constructor
  · have hruns : ∀ r ∈ maximalRuns seq, r.1 ≤ 15 ∧ 1 ≤ r.2 := fun r hr =>
      ⟨hseq r.1 (maximalRuns_value_mem hr), maximalRuns_pos seq r hr⟩
    rw [expandLengths, rle, foldl_expand_runs [] hruns, List.nil_append, maximalRuns_flatMap]
  · intro c hc
    obtain ⟨hsym, heb⟩ := rle_ofAlphabet hseq c hc
    exact ⟨hsym, (rle_fits seq c hc).2, heb⟩

/-! ### CLOSE_BLOCK and the row SELECT takes (42_block_coordinator.md R160) -/

/-- A sizing is the same once line 6 has written `BLFREQ`. -/
theorem sizeBlock_again {lfreq dfreq : List Word} {blOf : List ClSym → List Word} {z : Sizing}
    (h : sizeBlock lfreq dfreq blOf = .ok z) : sizeBlock lfreq dfreq (fun _ => z.blfreq) = .ok z := by
  obtain ⟨hl, hd, hseq, -, hbl, hhclen⟩ := sizeBlock_ok h
  simp only [sizeBlock, hl, hd, hbl, Except.bind, ← hseq, ← hhclen]

theorem sendFrom_of_ok {emit : State → Except Refusal Serializer} {e : State} {w : Serializer} (hp : e.phase = .emitting)
    (h : emit e = .ok w) : sendFrom emit e = .next { e with ser := w } := by
  rw [sendFrom, if_pos (show e.emitting = true from decide_eq_true hp), h]
  rfl

/-- In `EMITTING` a block row writes its encoding of the current block and changes nothing but the serializer. -/
theorem exec_blockRow {kind : BlockKind} {final : Bool} {z : Sizing} {e : State} {w : Serializer}
    (hp : e.phase = .emitting) (hz : e.sizing = .ok z) (hw : emitBlock kind final z e = .ok w) :
    exec (blockRow kind final) e = .next { e with ser := w } := by
  cases kind with
  | stored => cases final <;> exact sendFrom_of_ok hp hw
  | fixed => cases final <;> exact sendFrom_of_ok hp hw
  | dynamic =>
    have hexec : exec (blockRow .dynamic final) e = sendSized (emitDynamic final) e := by cases final <;> rfl
    rw [hexec, sendSized, if_pos (show e.emitting = true from decide_eq_true hp), hz]
    exact sendFrom_of_ok hp hw

theorem sizing_of_accumulating {s : State} (hp : s.phase = .accumulating) :
    s.sizing = sizeBlock (tallyEob s.lfreq) s.dfreq fun seq => tallySequence seq s.blfreq := by
  simp [State.sizing, hp]

theorem sizedLfreq_of_accumulating {s : State} (hp : s.phase = .accumulating) : s.sizedLfreq = tallyEob s.lfreq := by
  simp [State.sizedLfreq, hp]

/-- SELECT takes the same encoding before line 2 of CLOSE_BLOCK and at line 10. -/
theorem choice_beginEmitting {s : State} (hp : s.phase = .accumulating) (z : Sizing) :
    (s.beginSizing.beginEmitting z).choice z = s.choice z := by
  rw [State.choice, State.choice, sizedLfreq_of_accumulating hp]
  rfl

/-- Settles O35: CLOSE_BLOCK emits what the row of SELECT's choice emits (`exec_blockRow`), then resets the block. -/
theorem closeBlockWritesTheChosenRow : Obligations.CloseBlockWritesTheChosenRow := by
  unfold Obligations.CloseBlockWritesTheChosenRow
  intro final s t h
  obtain ⟨hp, z, w, hz, hw, rfl⟩ := closeBlock_eq_ok h
  refine ⟨z, (sizing_of_accumulating hp).trans hz, ?_, ?_⟩
  · simp only [choice_beginEmitting hp] at hw
    exact exec_blockRow (e := s.beginSizing.beginEmitting z) rfl (sizeBlock_again hz) hw
  · rw [← hp]
    rfl

/-! ### Sums over the counters of a table (42_block_coordinator.md R164) -/

/-- A sum over a table of `n` counters that is 0 on the empty table and gains `w i` whenever symbol `i` is counted. -/
structure PerSymbol (n : Nat) (w : Nat → Nat) (F : List Nat → Nat) : Prop where
  empty : F (List.replicate n 0) = 0
  count : ∀ t i, t.length = n → i < n → F (t.modify i (· + 1)) = F t + w i

/-- A table of `n` counters after counting each symbol of a list. -/
def tallied (n : Nat) (syms : List Nat) : List Word := syms.foldl bump (List.replicate n 0)

theorem tallied_append (n : Nat) (syms : List Nat) (s : Nat) : tallied n (syms ++ [s]) = bump (tallied n syms) s := by
  simp [tallied]

theorem tallied_length (n : Nat) (syms : List Nat) : (tallied n syms).length = n := by
  induction syms using List.reverseRecOn with
  | nil => exact List.length_replicate
  | append_singleton syms s ih => rw [tallied_append, bump_length, ih]

/-- Counting one more symbol is counting in numbers, as long as no counter can wrap. -/
theorem counts_bump {t : List Word} (h : total (counts t) + 1 < 2 ^ 32) (i : Nat) :
    counts (bump t i) = (counts t).modify i (· + 1) := by
  rw [total_eq_sum] at h
  refine List.ext_getElem (by simp [counts]) fun j hj _ => ?_
  have hj : j < t.length := by simpa [counts] using hj
  have hle : t[j].toNat ≤ (counts t).sum := List.le_sum_of_mem (List.mem_map_of_mem (List.getElem_mem hj))
  have hadd : (t[j] + 1).toNat = t[j].toNat + 1 := BitVec.toNat_add_of_lt (by simpa using by omega)
  simp only [counts, bump, List.getElem_map, List.getElem_modify]
  split
  · exact hadd
  · rfl

section
variable {n : Nat} {syms : List Nat}

theorem total_counts_tallied (hsyms : ∀ s ∈ syms, s < n) (hlen : syms.length < 2 ^ 32) :
    total (counts (tallied n syms)) = syms.length := by
  induction syms using List.reverseRecOn with
  | nil => exact total_counts_replicate n
  | append_singleton syms s ih =>
    obtain ⟨hsyms, hs⟩ := List.forall_mem_append.1 hsyms
    rw [List.length_append, List.length_singleton] at hlen
    have ih := ih hsyms (by omega)
    have hs : s < (tallied n syms).length := (hs s (List.mem_singleton_self s)).trans_eq (tallied_length n syms).symm
    rw [tallied_append, total_counts_bump hs (by omega), ih, List.length_append, List.length_singleton]

/-- What such a sum is over a tallied table. -/
theorem PerSymbol.of_tallied {w : Nat → Nat} {F : List Nat → Nat} (hF : PerSymbol n w F) (hsyms : ∀ s ∈ syms, s < n)
    (hlen : syms.length < 2 ^ 32) : F (counts (tallied n syms)) = (syms.map w).sum := by
  induction syms using List.reverseRecOn with
  | nil => simpa [tallied, counts] using hF.empty
  | append_singleton syms s ih =>
    obtain ⟨hsyms, hs⟩ := List.forall_mem_append.1 hsyms
    rw [List.length_append, List.length_singleton] at hlen
    have htotal := total_counts_tallied hsyms (by omega)
    have hlength : (counts (tallied n syms)).length = n := by rw [counts, List.length_map, tallied_length]
    rw [tallied_append, counts_bump (by omega), hF.count _ _ hlength (hs s (List.mem_singleton_self s)),
      ih hsyms (by omega)]
    simp

end

/-! #### The sums of COST -/

@[simp] theorem encLen_nil (u : List Nat) : encLen [] u = 0 := rfl

@[simp] theorem encLen_cons (x : Nat) (t : List Nat) (y : Nat) (u : List Nat) :
    encLen (x :: t) (y :: u) = x * y + encLen t u := by
  simp [encLen, total_eq_sum]

theorem encLen_replicate_zero (n : Nat) (u : List Nat) : encLen (List.replicate n 0) u = 0 := by
  induction n generalizing u with
  | zero => rfl
  | succ n ih =>
    cases u with
    | nil => rfl
    | cons y u => rw [List.replicate_succ, encLen_cons, ih, Nat.zero_mul]

theorem encLen_modify {t : List Nat} {i : Nat} (hi : i < t.length) (u : List Nat) :
    encLen (t.modify i (· + 1)) u = encLen t u + entry u i := by
  induction t generalizing i u with
  | nil => simp at hi
  | cons x t ih =>
    cases u with
    | nil => cases i <;> rfl
    | cons y u =>
      cases i with
      | zero => rw [List.modify_zero_cons, encLen_cons, encLen_cons, entry_cons_zero, Nat.succ_mul, Nat.add_right_comm]
      | succ i =>
        rw [List.modify_succ_cons, encLen_cons, encLen_cons, entry_cons_succ, ih (Nat.lt_of_succ_lt_succ hi),
          Nat.add_assoc]

theorem perSymbol_total (n : Nat) : PerSymbol n (fun _ => 1) total where
  empty := by simp [total_eq_sum]
  count t i hlen hi := by
    have := sum_modify (· + 1) (hlen.symm ▸ hi : i < t.length)
    rw [total_eq_sum, total_eq_sum]
    omega

theorem perSymbol_encLen (n : Nat) (u : List Nat) : PerSymbol n (entry u) fun t => encLen t u where
  empty := encLen_replicate_zero n u
  count _ _ hlen hi := encLen_modify (hlen.symm ▸ hi) u

/-- How many extra bits follow literal/length symbol `s` (30_encoding.md R86, R90). -/
def litExtra (s : Nat) : Nat := if s < 257 then 0 else entry lExtra (s - 257)

theorem perSymbol_litExtra (n : Nat) : PerSymbol n litExtra fun t => encLen (t.drop 257) lExtra where
  empty := by rw [List.drop_replicate, encLen_replicate_zero]
  count t i hlen hi := by
    unfold litExtra
    split
    · next hlow => rw [List.drop_modify_of_lt _ _ _ _ hlow, Nat.add_zero]
    · next hhigh =>
      rw [List.drop_modify_of_ge _ _ _ _ (not_lt.1 hhigh), encLen_modify]
      rw [List.length_drop]
      omega

theorem staticLitCost_replicate_zero (s n : Nat) : staticLitCost s (List.replicate n 0) = 0 := by
  induction n generalizing s with
  | zero => rfl
  | succ n ih => rw [List.replicate_succ, staticLitCost, ih, Nat.zero_mul]

theorem staticLitCost_modify {t : List Nat} {i : Nat} (hi : i < t.length) (s : Nat) :
    staticLitCost s (t.modify i (· + 1)) = staticLitCost s t + (staticLit (s + i)).n := by
  induction t generalizing i s with
  | nil => simp at hi
  | cons x t ih =>
    cases i with
    | zero => rw [List.modify_zero_cons, staticLitCost, staticLitCost, Nat.succ_mul, Nat.add_right_comm, Nat.add_zero s]
    | succ i =>
      rw [List.modify_succ_cons, staticLitCost, staticLitCost, ih (Nat.lt_of_succ_lt_succ hi),
        Nat.succ_add_eq_add_succ, Nat.add_assoc]

theorem perSymbol_staticLitCost (n : Nat) : PerSymbol n (fun s => (staticLit s).n) (staticLitCost 0) where
  empty := staticLitCost_replicate_zero 0 n
  count _ i hlen hi := by rw [staticLitCost_modify (hlen.symm ▸ hi), Nat.zero_add]

theorem perSymbol_clExtra :
    PerSymbol 19 clExtra fun t => 2 * entry t 16 + 3 * entry t 17 + 7 * entry t 18 where
  empty := by simp only [entry_replicate_zero]
  count t i hlen _ := by
    rw [entry_modify _ (by omega), entry_modify _ (by omega), entry_modify _ (by omega), clExtra]
    split_ifs <;> omega

/-! ### The symbols of a block (30_encoding.md R90) -/

/-- The literal/length symbols of a queue's tokens, in order. -/
def litSymbols (q : List QEntry) : List Nat := q.map fun e => e.token.litSymbol

/-- The distance symbols of a queue's matches, in order. -/
def distSymbols (q : List QEntry) : List Nat := q.filterMap fun e => e.token.distSymbol

theorem tallyEob_talliedLit (q : List QEntry) : tallyEob (talliedLit q) = tallied 286 (litSymbols q ++ [256]) := by
  rw [tallied_append, tallied, litSymbols, List.foldl_map]
  rfl

theorem talliedDist_eq (q : List QEntry) : talliedDist q = tallied 30 (distSymbols q) := by
  rw [tallied, distSymbols, List.foldl_filterMap, talliedDist]
  congr 1
  funext t e
  cases e.token.distSymbol <;> rfl

theorem tallySequence_eq (seq : List ClSym) :
    tallySequence seq (List.replicate 19 0) = tallied 19 (seq.map ClSym.sym) := by
  rw [tallied, List.foldl_map]
  rfl

theorem litSymbols_lt {q : List QEntry} : ∀ x ∈ litSymbols q ++ [256], x < 286 := by
  refine List.forall_mem_append.2 ⟨fun x hx => ?_, by simp⟩
  obtain ⟨e, -, rfl⟩ := List.mem_map.1 hx
  exact (litSymbol_bound e.token).1

theorem distSymbols_lt {q : List QEntry} : ∀ c ∈ distSymbols q, c < 30 := by
  intro c hc
  obtain ⟨e, -, he⟩ := List.mem_filterMap.1 hc
  cases hk : e.token with
  | lit b => rw [hk] at he; cases he
  | ref d l => rw [hk] at he; cases he; exact distCode_lt d

@[simp] theorem bitField_bits_length (f : BitField) : f.bits.length = f.n := bits_length f.v f.n

/-- The bits of a queue's tokens: the codes of their symbols, and the extra bits that follow these. -/
theorem tokens_bits_length (codes : BlockCodes) (q : List QEntry) :
    (fieldBits (q.flatMap fun e => tokenFields codes e.token)).length =
      ((litSymbols q).map fun x => (codes.lit x).n + litExtra x).sum +
      ((distSymbols q).map fun c => (codes.dist c).n + entry dExtra c).sum := by
  induction q with
  | nil => rfl
  | cons e q ih =>
    rw [List.flatMap_cons, fieldBits_append, List.length_append, ih]
    simp only [litSymbols, distSymbols, List.map_cons, List.sum_cons, List.filterMap_cons]
    cases e.token with
    | lit b =>
      have hlow : litExtra b.toNat = 0 := if_pos (by omega)
      simp [tokenFields, Token.litSymbol, Token.distSymbol, hlow]
      omega
    | ref d l =>
      have hhigh : litExtra (257 + lenCode l) = entry lExtra (lenCode l) := by simp [litExtra]
      simp [tokenFields, lenFields, distFields, Token.litSymbol, Token.distSymbol, hhigh]
      omega

/-! ### COST (42_block_coordinator.md R164) -/

/-- `SEQ` is short, and its symbols are code-length symbols with the extra bits these have. -/
theorem sized_seq {lfreq dfreq : List Word} {blOf : List ClSym → List Word} {z : Sizing} (hl : lfreq.length = 286)
    (hd : dfreq.length = 30) (h : sizeBlock lfreq dfreq blOf = .ok z) :
    z.seq.length ≤ 316 ∧ ∀ c ∈ z.seq, c.OfAlphabet := by
  obtain ⟨hlit, hdist, hseq, -⟩ := sizeBlock_ok h
  obtain ⟨-, hllen, -⟩ := buildCode_ok hlit
  obtain ⟨-, hdlen, -⟩ := buildCode_ok hdist
  rw [hseq]
  constructor
  · refine (lengthSequence_length_le z.l z.d).trans (le_of_eq ?_)
    rw [hllen, hdlen, counts, counts, List.length_map, List.length_map, hl, hd]
  · exact List.forall_mem_append.2
      ⟨rle_ofAlphabet fun _ hx => buildCode_len_le hlit _ (List.mem_of_mem_take hx),
        rle_ofAlphabet fun _ hx => buildCode_len_le hdist _ (List.mem_of_mem_take hx)⟩

theorem buildCode_enclen {freq : List Nat} {minCodes cap : Nat} {b : Built} (h : buildCode freq minCodes cap = .ok b) :
    b.enclen = encLen freq b.table.len := by
  unfold buildCode at h
  split at h
  · cases h
  · cases h
    rfl

section
variable {s : State} (hs : s.MidStep)
include hs

theorem sizedLfreq_eq : s.sizedLfreq = tallied 286 (litSymbols s.q ++ [256]) := by
  rw [sizedLfreq_of_accumulating hs.1.phase, hs.2.lfreq, tallyEob_talliedLit]

theorem dfreq_eq : s.dfreq = tallied 30 (distSymbols s.q) := by rw [hs.2.dfreq, talliedDist_eq]

theorem queue_length_lt : s.q.length < 65535 := by
  obtain ⟨-, ⟨-, hcap⟩, -⟩ := hs.1.host.1
  exact hs.2.room.trans_le hcap

variable {w : Nat → Nat} {F : List Nat → Nat}

/-- A sum over `LFREQ` is one over the literal/length symbols of the block, the end-of-block marker among them. -/
theorem PerSymbol.over_lfreq (hF : PerSymbol 286 w F) :
    F (counts s.sizedLfreq) = ((litSymbols s.q ++ [256]).map w).sum := by
  have hq := queue_length_lt hs
  rw [sizedLfreq_eq hs, hF.of_tallied litSymbols_lt (by simp [litSymbols]; omega)]

theorem PerSymbol.over_dfreq (hF : PerSymbol 30 w F) : F (counts s.dfreq) = ((distSymbols s.q).map w).sum := by
  have hle : (distSymbols s.q).length ≤ s.q.length := List.length_filterMap_le ..
  have hq := queue_length_lt hs
  rw [dfreq_eq hs, hF.of_tallied distSymbols_lt (by omega)]

theorem sized_seq_of_midStep {z : Sizing} (hz : s.sizing = .ok z) :
    z.blfreq = tallied 19 (z.seq.map ClSym.sym) ∧ z.seq.length ≤ 316 ∧ ∀ c ∈ z.seq, c.OfAlphabet := by
  have hsize := (sizing_of_accumulating hs.1.phase).symm.trans hz
  obtain ⟨-, -, -, hblfreq, -⟩ := sizeBlock_ok hsize
  refine ⟨by rw [hblfreq, hs.2.blfreq, tallySequence_eq], sized_seq ?_ ?_ hsize⟩
  · rw [← sizedLfreq_of_accumulating hs.1.phase, sizedLfreq_eq hs, tallied_length]
  · rw [dfreq_eq hs, tallied_length]

theorem PerSymbol.over_blfreq (hF : PerSymbol 19 w F) {z : Sizing} (hz : s.sizing = .ok z) :
    F (counts z.blfreq) = (z.seq.map fun c => w c.sym).sum := by
  obtain ⟨hblfreq, hlen, halpha⟩ := sized_seq_of_midStep hs hz
  have hsyms : ∀ x ∈ z.seq.map ClSym.sym, x < 19 := by
    intro x hx
    obtain ⟨c, hc, rfl⟩ := List.mem_map.1 hx
    exact Nat.lt_succ_of_le (halpha c hc).1
  rw [hblfreq, hF.of_tallied hsyms (by rw [List.length_map]; omega), List.map_map]
  rfl

/-- The bits of a block's tokens and its end-of-block marker: the codes' lengths, and `EXTRA`. -/
theorem block_bits_length (codes : BlockCodes) :
    (fieldBits (s.queueFields codes)).length + (fieldBits (eobFields codes)).length =
      ((litSymbols s.q ++ [256]).map fun x => (codes.lit x).n).sum +
      ((distSymbols s.q).map fun c => (codes.dist c).n).sum + extraCost (counts s.sizedLfreq) (counts s.dfreq) := by
  have hextra : extraCost (counts s.sizedLfreq) (counts s.dfreq) =
      ((litSymbols s.q ++ [256]).map litExtra).sum + ((distSymbols s.q).map (entry dExtra)).sum :=
    congrArg₂ (· + ·) ((perSymbol_litExtra 286).over_lfreq hs) ((perSymbol_encLen 30 dExtra).over_dfreq hs)
  have heob : litExtra 256 = 0 := rfl
  rw [hextra, State.queueFields, tokens_bits_length]
  simp [eobFields, Config.eob, List.sum_map_add, heob]
  omega

/-- `COST_STATIC` is exact. -/
theorem fixed_cost_eq (z : Sizing) (final : Bool) :
    (costsOf (counts s.sizedLfreq) (counts s.dfreq) z s.blkLen).fixed = (fieldBits (s.staticFields final)).length := by
  have hlit := (perSymbol_staticLitCost 286).over_lfreq hs
  have hdist := (perSymbol_total 30).over_dfreq hs
  have hblock := block_bits_length hs .fixed
  have hfive : ((distSymbols s.q).map fun c => (BlockCodes.fixed.dist c).n).sum =
      5 * ((distSymbols s.q).map fun _ => 1).sum := List.sum_map_mul_left _ (fun _ => 1) 5
  have hcodes : ((litSymbols s.q ++ [256]).map fun x => (BlockCodes.fixed.lit x).n).sum =
      ((litSymbols s.q ++ [256]).map fun x => (staticLit x).n).sum := rfl
  simp only [costsOf, State.staticFields, List.cons_append, fieldBits_cons, fieldBits_append, List.length_append,
    bitField_bits_length, headerField, hlit, hdist]
  omega

theorem tableFields_bits_length {z : Sizing} (hz : s.sizing = .ok z) :
    (fieldBits z.tableFields).length = 5 + 5 + 4 + 3 * z.hclen + encLen (counts z.blfreq) z.bl.table.len +
      (2 * entry (counts z.blfreq) 16 + 3 * entry (counts z.blfreq) 17 + 7 * entry (counts z.blfreq) 18) := by
  have hsize := (sizing_of_accumulating hs.1.phase).symm.trans hz
  obtain ⟨-, -, -, -, -, hhclen⟩ := sizeBlock_ok hsize
  obtain ⟨-, -, halpha⟩ := sized_seq_of_midStep hs hz
  have hlens := (perSymbol_encLen 19 z.bl.table.len).over_blfreq hs hz
  have hextras := perSymbol_clExtra.over_blfreq hs hz
  have heb : (z.seq.map fun c => clExtra c.sym) = z.seq.map ClSym.eb :=
    List.map_congr_left fun c hc => (halpha c hc).2.symm
  have hle : z.hclen ≤ 19 := hhclen ▸ hclenOf_le _
  have htake : min z.hclen blOrder.length = z.hclen := min_eq_left hle
  rw [fieldBits_tableFields, hlens, hextras, heb]
  simp [List.length_flatMap, CodeTable.field, htake]
  omega

/-- `COST_DYNAMIC` is exact. -/
theorem dynamic_cost_eq {z : Sizing} (hz : s.sizing = .ok z) (final : Bool) :
    (costsOf (counts s.sizedLfreq) (counts s.dfreq) z s.blkLen).dynamic =
      (fieldBits (s.dynamicFields final z)).length := by
  have hsize := (sizing_of_accumulating hs.1.phase).symm.trans hz
  obtain ⟨hl, hd, -, -, hbl, -⟩ := sizeBlock_ok hsize
  rw [← sizedLfreq_of_accumulating hs.1.phase] at hl
  have hlit := (perSymbol_encLen 286 z.l.table.len).over_lfreq hs
  have hdist := (perSymbol_encLen 30 z.d.table.len).over_dfreq hs
  have hblock := block_bits_length hs z.codes
  have htables := tableFields_bits_length hs hz
  rw [fieldBits_dynamicFields]
  simp only [costsOf, List.length_append, bits_length, buildCode_enclen hl, buildCode_enclen hd, buildCode_enclen hbl,
    hlit, hdist]
  have hcodes : ((litSymbols s.q ++ [256]).map fun x => (z.codes.lit x).n) =
      (litSymbols s.q ++ [256]).map (entry z.l.table.len) := rfl
  have hdcodes : ((distSymbols s.q).map fun x => (z.codes.dist x).n) =
      (distSymbols s.q).map (entry z.d.table.len) := rfl
  rw [hcodes, hdcodes] at hblock
  omega

end

/-- Settles O34: every sum of COST is one over the block's symbols (`PerSymbol.of_tallied`), as are the bits written. -/
theorem estimatesEqualBitsWritten : Obligations.EstimatesEqualBitsWritten := by
  unfold Obligations.EstimatesEqualBitsWritten
  intro s z final hs hp hz
  have hmid := (midStep_iff s).2 ⟨hs, hp⟩
  exact ⟨fixed_cost_eq hmid z final, dynamic_cost_eq hmid hz final⟩

/-! ### FINISH of an empty block (42_block_coordinator.md R177) -/

/-- An empty block has a sizing. -/
theorem emptyBlock_sized :
    (sizeBlock (tallyEob (talliedLit [])) (talliedDist []) fun seq =>
      tallySequence seq (List.replicate Config.blCodes 0)).toOption.isSome = true := by
  decide +kernel

theorem staticFields_of_empty {s : State} (hq : s.q = []) (final : Bool) :
    fieldBits (s.staticFields final) = bits (final.toNat + 2) 3 ++ bits 0 7 := by
  rw [fieldBits_staticFields, State.queueFields, hq]
  rfl

section
variable {s : State} (hs : s.MidStep) (hq : s.q = [])
include hs hq

theorem exists_sizing_of_empty : ∃ z, s.sizing = .ok z := by
  have hsome := emptyBlock_sized
  rw [← hq, ← hs.2.lfreq, ← hs.2.dfreq, ← hs.2.blfreq, ← sizing_of_accumulating hs.1.phase,
    Option.isSome_iff_exists] at hsome
  simpa only [toOption_eq_some] using hsome

/-- The ten bits of a static block are fewer than a stored block's 40 and a dynamic header's 17. -/
theorem choice_of_empty {z : Sizing} : s.choice z = .fixed := by
  have hfixed := fixed_cost_eq hs z false
  rw [staticFields_of_empty hq, List.length_append, bits_length, bits_length] at hfixed
  rw [State.choice, select_eq_fixed_iff, storedCheapest_eq_false_iff, hfixed]
  constructor
  · intro b hb
    simp only [costsOf, Option.ite_none_right_eq_some, Option.some.injEq] at hb
    omega
  · simp only [costsOf]
    omega

end

/-- CLOSE_BLOCK ends well where its emission does, and leaves an empty block. -/
theorem closeBlock_of_emitBlock {s : State} {final : Bool} {z : Sizing} {w : Serializer} (hp : s.phase = .accumulating)
    (hz : s.sizing = .ok z) (hw : emitBlock (s.choice z) final z (s.beginSizing.beginEmitting z) = .ok w) :
    closeBlock final s = .ok { s.clearedBlock with ser := w, phase := .accumulating } := by
  rw [sizing_of_accumulating hp] at hz
  rw [← toOption_eq_some, closeBlock_toOption hp, hz, toOption_ok, Option.bind_some, choice_beginEmitting hp, hw]
  rfl

/-- An empty block is closed as a static one (30_encoding.md R99). -/
theorem closeBlock_of_empty {s : State} (hs : s.MidStep) (hq : s.q = []) (final : Bool)
    (hroom : s.ser.bitpos + 10 < 2 ^ 64) :
    ∃ w, closeBlock final s = .ok { s.clearedBlock with ser := w, phase := .accumulating } ∧ w.wf ∧
      w.stream = s.ser.stream ++ (bits (final.toNat + 2) 3 ++ bits 0 7) := by
  obtain ⟨z, hz⟩ := exists_sizing_of_empty hs hq
  have hbits : fieldBits ((s.beginSizing.beginEmitting z).staticFields final) = _ := staticFields_of_empty hq final
  obtain ⟨w, hw, hwf, hstream⟩ := putFields_writes hs.1.ser
    (staticFields_fit (s := s.beginSizing.beginEmitting z) hs.1.host.1 hs.2.entries final) (by
      rw [hbits, List.length_append, bits_length, bits_length]
      exact hroom)
  refine ⟨w, closeBlock_of_emitBlock hs.1.phase hz ?_, hwf, hbits ▸ hstream⟩
  rw [choice_of_empty hs hq]
  exact hw

/-- Clearing an empty block changes nothing. -/
theorem clearedBlock_of_empty {s : State} (hs : s.MidStep) (hq : s.q = []) : s.clearedBlock = s := by
  obtain ⟨-, hstart, hlen, -, -, hl, hd, hbl⟩ := hs
  have hblk : s.blkStart = s.p := by
    rw [hq, State.blkLen] at hlen
    exact Nat.le_antisymm hstart (Nat.sub_eq_zero_iff_le.1 hlen)
  rw [hq] at hl hd
  cases s
  cases hq; cases hl; cases hd; cases hbl; cases hblk
  rfl

/-- Settles O11: STEP's loop is quiet at once, the block is closed as a static one, and ALIGN pads it. -/
theorem finishOfEmptyBlockWritesTenBits : Obligations.FinishOfEmptyBlockWritesTenBits := by
  unfold Obligations.FinishOfEmptyBlockWritesTenBits
  intro fl s hs hp hin hla hq hfin hroom
  have hmid : (s.beginStep fl).MidStep := midStep_of_flags ((midStep_iff s).2 ⟨hs, hp⟩) fl false
  have hquiet : (s.beginStep fl).Quiet :=
    ⟨by simp [State.fillEnabled, hin], not_canFind_of_la hla⟩
  obtain ⟨w, hclose, hwf, hstream⟩ := closeBlock_of_empty hmid hq true (by rw [beginStep_ser]; omega)
  rw [clearedBlock_of_empty hmid hq] at hclose
  have hpos : w.bitpos = s.ser.bitpos + 10 := by
    have hser : s.ser.wf := hmid.1.ser
    simp only [← stream_length hwf, hstream, beginStep_ser, ← stream_length hser, List.length_append, bits_length]
  obtain ⟨v, hv, hvwf, hpad⟩ := align_writes hwf (by omega)
  refine ⟨v, ?_, hvwf, align_nb hv, ?_⟩
  · have hdone : (s.beginStep fl).phase ≠ .done := by simp [hp]
    have hfault : s.phase ≠ .fault := by simp [hp]
    have hflag : finishFlag fl = true := hfin
    change unlessFaulted s (finish (runStep fl (s.beginStep fl))) = _
    rw [unlessFaulted_run _ hfault, runStep, if_neg hdone, quiesce_of_quiet hquiet]
    simp only [Except.bind, closeByFlags, hflag, if_true, hclose, hv, liftRefusal_ok]
    rfl
  · rw [hpad, hstream, hwf.1, hpos]
    simp

end Sys2Proof.Machine

/-! PROOFS of the family 43_bit_serializer.md: what PUT_BITS, ALIGN and PUT_BYTES append (R190 to R193), that only an
emission sends (R194), and that no STEP breaks a precondition of the serializer (R190, R192, U5, U11). -/

namespace Sys2Proof.Machine

open Claims

/-! ### The serializer's operations (43_bit_serializer.md R190 to R192) -/

/-- Settles O37: `putBits_writes`; the stream is as long as `BITPOS` says, and `OUT` only grows. -/
theorem putBitsAppendsToStream : Obligations.PutBitsAppendsToStream := by
  unfold Obligations.PutBitsAppendsToStream
  intro z v n hz hn hv hroom
  obtain ⟨w, hw, hwf, hstream⟩ := putBits_writes (f := { v := v, n := n }) hz ((fits_iff _).2 ⟨hn, hv⟩) hroom
  obtain ⟨-, -, rfl⟩ := putBits_eq_ok hw
  exact ⟨_, hw, hwf, push_bitpos z _, hstream, push_out z _⟩

/-- On a byte boundary `ACC` holds nothing (43_bit_serializer.md R193). -/
theorem acc_eq_zero_of_nb {z : Serializer} (hz : z.wf) (hnb : z.nb = 0) : z.acc = 0 := by
  obtain ⟨-, -, hacc⟩ := hz
  rw [hnb] at hacc
  exact BitVec.eq_of_toNat_eq (Nat.lt_one_iff.1 hacc)

theorem align_of_aligned {z : Serializer} (hnb : z.nb = 0) : align z = .ok z := if_pos hnb

/-- Settles O38: `align_writes`, `align_nb`. -/
theorem alignPadsWithZeros : Obligations.AlignPadsWithZeros := by
  unfold Obligations.AlignPadsWithZeros
  intro z hz hroom
  obtain ⟨w, hw, hwf, hstream⟩ := align_writes hz (by omega)
  have hnb := align_nb hw
  refine ⟨w, hw, hwf, hnb, acc_eq_zero_of_nb hwf hnb, hstream, fun haligned => ?_⟩
  exact Except.ok.inj (hw.symm.trans (align_of_aligned haligned))

/-- What PUT_BYTES leaves where it is not refused (43_bit_serializer.md R192). -/
theorem putBytes_eq_ok {bs : List Byte} {z w : Serializer} (h : putBytes bs z = .ok w) :
    w = { z with out := z.out ++ bs, bitpos := z.bitpos + 8 * bs.length } := by
  unfold putBytes at h
  split at h
  · split at h
    · exact (Except.ok.inj h).symm
    · cases h
  · cases h

/-- Settles O39: `putBytes_writes` on a byte boundary; off one the precondition of R192 fails. -/
theorem putBytesAppendsBytes : Obligations.PutBytesAppendsBytes := by
  unfold Obligations.PutBytesAppendsBytes
  intro z bs hz
  constructor
  · intro hnb hroom
    obtain ⟨w, hw, hwf, hstream⟩ := putBytes_writes hz hnb hroom
    cases putBytes_eq_ok hw
    exact ⟨_, hw, hwf, rfl, rfl, rfl, rfl, hstream⟩
  · exact fun hnb => if_neg hnb

/-! ### Outside an emission nothing is sent (43_bit_serializer.md R194) -/

section
variable {s : State} (hp : s.phase ≠ .emitting)
include hp

theorem sendFrom_idle (emit : State → Except Refusal Serializer) : sendFrom emit s = .next s :=
  if_neg (by simpa [State.emitting] using hp)

theorem sendSized_idle (emit : Sizing → State → Except Refusal Serializer) : sendSized emit s = .next s :=
  if_neg (by simpa [State.emitting] using hp)

theorem sendFields_idle (fs : List BitField) : sendFields fs s = .next s := sendFrom_idle hp _

end

/-- Settles O47: every row that is not reserved sends, with or without the sizing of the block, and neither way of sending
does anything outside `EMITTING`. -/
theorem closedRunSendsNothing : Obligations.ClosedRunSendsNothing := by
  unfold Obligations.ClosedRunSendsNothing
  intro i s hrow hres hp
  unfold exec
  cases i with
  | reset | setInput | needsInput | step | getChecksum | reservedCmd => exact absurd rfl hrow
  | blockReserved | llReserved | distReserved => cases hres
  | blockStored | blockStoredFinal | blockStatic | blockStaticFinal => exact sendFrom_idle hp _
  | staticLl0To143 | staticLl144To255 | staticLl256To279 | staticLl280To287 | staticDist =>
    exact sendFields_idle hp _
  | _ => exact sendSized_idle hp _

/-! ### Operations that write or run out of `BITPOS` (43_bit_serializer.md R190 to R192, U5, U11) -/

/-- `r` is an operation on `z` within its preconditions: it writes `n` bits and keeps the serializer's counts, or it is
refused because `n` bits more would take `BITPOS` out of its range. -/
def WritesOrTooLong (z : Serializer) (n : Nat) : Except Refusal Serializer → Prop
  | .ok w => w.wf ∧ w.bitpos = z.bitpos + n
  | .error r => r = .streamTooLong ∧ Config.maxBitpos ≤ z.bitpos + n

theorem WritesOrTooLong.bind {z : Serializer} {m n : Nat} {r : Except Refusal Serializer}
    {k : Serializer → Except Refusal Serializer} (hr : WritesOrTooLong z m r)
    (hk : ∀ w, r = .ok w → w.wf → w.bitpos = z.bitpos + m → WritesOrTooLong w n (k w)) :
    WritesOrTooLong z (m + n) (r.bind k) := by
  cases r with
  | error e =>
    obtain ⟨he, hfull⟩ := hr
    exact ⟨he, by omega⟩
  | ok w =>
    obtain ⟨hw, hpos⟩ := hr
    have hrest := hk w rfl hw hpos
    change WritesOrTooLong z (m + n) (k w)
    cases hy : k w with
    | error e =>
      rw [hy] at hrest
      obtain ⟨he, hfull⟩ := hrest
      exact ⟨he, by omega⟩
    | ok y =>
      rw [hy] at hrest
      obtain ⟨hwf, hy⟩ := hrest
      exact ⟨hwf, by omega⟩

section
variable {z : Serializer} (hz : z.wf)
include hz

theorem putBits_writesOrTooLong {f : BitField} (hf : f.fits = true) : WritesOrTooLong z f.n (putBits f z) := by
  rw [putBits, if_pos hf]
  split
  · exact ⟨push_wf hz hf, push_bitpos z f⟩
  · next hfull => exact ⟨rfl, Nat.le_of_not_lt hfull⟩

theorem putFields_writesOrTooLong {fs : List BitField} (hfs : ∀ f ∈ fs, f.fits = true) :
    WritesOrTooLong z (fieldBits fs).length (putFields fs z) := by
  induction fs generalizing z with
  | nil => exact ⟨hz, rfl⟩
  | cons f fs ih =>
    obtain ⟨hf, hfs⟩ := List.forall_mem_cons.1 hfs
    rw [fieldBits_cons, List.length_append, BitField.bits, bits_length]
    exact (putBits_writesOrTooLong hz hf).bind fun w _ hw _ => ih hw hfs

theorem align_writesOrTooLong : WritesOrTooLong z ((8 - z.nb.toNat) % 8) (align z) := by
  unfold align
  split
  · next hnb => exact ⟨hz, by simp [hnb]⟩
  · next hnb =>
    have hpos : z.nb.toNat ≠ 0 := fun h => hnb (BitVec.eq_of_toNat_eq h)
    rw [Nat.mod_eq_of_lt (by omega : 8 - z.nb.toNat < 8)]
    exact putBits_writesOrTooLong (f := { v := 0, n := 8 - z.nb.toNat }) hz
      ((fits_iff _).2 ⟨by dsimp only; omega, Nat.two_pow_pos _⟩)

theorem putBytes_writesOrTooLong {seq : List Byte} (hnb : z.nb = 0) :
    WritesOrTooLong z (8 * seq.length) (putBytes seq z) := by
  cases hr : putBytes seq z with
  | ok w => exact ⟨(putBytes_sound hz hr).1, by rw [putBytes_eq_ok hr]⟩
  | error e =>
    rw [putBytes, if_pos hnb] at hr
    split at hr
    · cases hr
    · next hfull =>
      cases hr
      exact ⟨rfl, Nat.le_of_not_lt hfull⟩

end

/-! ### The emission of a block (42_block_coordinator.md R160, R170 to R172) -/

/-- What CLOSE_BLOCK needs of the state for its emission to stay within the serializer's preconditions. -/
structure State.Closable (s : State) : Prop where
  phase : s.phase = .accumulating
  params : s.params.legal
  ser : s.ser.wf
  entries : ∀ e ∈ s.q, e.wf s.params
  room : s.qn ≤ s.params.qcap
  lfreq : s.lfreq.length = Config.lCodes
  dfreq : s.dfreq.length = Config.dCodes

theorem State.MidStep.closable {s : State} (hs : s.MidStep) : s.Closable := by
  obtain ⟨stream, block⟩ := hs
  exact { phase := stream.phase, params := stream.host.1, ser := stream.ser, entries := block.entries
          room := block.room.le
          lfreq := block.lfreq ▸ talliedLit_length s.q
          dfreq := block.dfreq ▸ talliedDist_length s.q }

/-- The state in which TALLY closes a full queue. -/
theorem record_advance_closable {s : State} (hs : s.MidStep) :
    (record (find s) (advance (find s) s)).Closable := by
  obtain ⟨stream, block⟩ := hs
  have hroom := block.room
  have hc := stream.host.1
  refine ⟨by simp [stream.phase], by simpa using hc, by simpa using stream.ser, ?_, ?_, ?_, ?_⟩
  · simp only [record_q, advance_q, record_params, advance_params, List.forall_mem_append, List.forall_mem_singleton]
    exact ⟨block.entries, Token.entry_wf hc (find_legal s)⟩
  · simpa [State.qn] using hroom
  · simp [block.lfreq, talliedLit_length, bump]
  · rw [record_dfreq_eq_tallyDistance, tallyDistance_length, advance_dfreq, block.dfreq, talliedDist_length]

/-- A bound on the bits of one block: 65535 stored bytes, or as many tokens of at most 64 bits, and what goes around
them. -/
def maxBlockBits : Nat := 2 ^ 23

/-- SELECT takes the stored encoding for blocks of at most 65535 bytes only (R164, R166). -/
theorem blkLen_le_of_choice_stored {s : State} {z : Sizing} (h : s.choice z = .stored) : s.blkLen ≤ 65535 := by
  obtain ⟨b, hb, -⟩ := (storedCheapest_iff _).1 ((select_eq_stored_iff _).1 h)
  simp only [costsOf, Option.ite_none_right_eq_some] at hb
  exact hb.1

/-- LEN and its complement leave a byte boundary one, so PUT_BYTES is admitted (30_encoding.md R92). -/
theorem emitStored_writesOrTooLong {s : State} (hwf : s.ser.wf) (hlen : s.blkLen ≤ 65535) (final : Bool) :
    WritesOrTooLong s.ser (3 + ((13 - s.ser.nb.toNat) % 8 + (32 + 8 * s.blockBytes.length))) (emitStored final s) := by
  refine (putBits_writesOrTooLong hwf (headerField_fits .stored final)).bind fun z _ hz hzpos => ?_
  have hpad : (13 - s.ser.nb.toNat) % 8 = (8 - z.nb.toNat) % 8 := by
    have hzpos : z.bitpos = s.ser.bitpos + 3 := hzpos
    have hnb := hwf.1
    have hznb := hz.1
    omega
  rw [hpad]
  refine (align_writesOrTooLong hz).bind fun y hy hywf _ => ?_
  have hfit : ∀ f ∈ [{ v := s.blkLen, n := 16 }, { v := 65535 - s.blkLen, n := 16 }], BitField.fits f = true := by
    simp only [List.forall_mem_cons, fits_iff]
    exact ⟨by omega, by omega, by simp⟩
  refine (putFields_writesOrTooLong hywf hfit).bind fun x _ hx hxpos => ?_
  have hxpos : x.bitpos = y.bitpos + 32 := hxpos
  have hboundary := (nb_eq_zero_iff hywf).1 (align_nb hy)
  exact putBytes_writesOrTooLong hx ((nb_eq_zero_iff hx).2 (by omega))

section
variable {s : State} (hc : s.params.legal) (hq : ∀ e ∈ s.q, e.wf s.params) (final : Bool)
include hc hq

theorem staticFields_length_le : (fieldBits (s.staticFields final)).length ≤ 10 + 64 * s.qn := by
  have hqueue := queueFields_length_le fixed_fit hc hq
  simp only [fieldBits_staticFields, List.length_append, bits_length]
  omega

/-- A dynamic block's fields are admitted, whatever the tables it was sized from. -/
theorem dynamicFields_fit {lfreq dfreq : List Word} {blOf : List ClSym → List Word} {z : Sizing}
    (hl : lfreq.length = 286) (hd : dfreq.length = 30) (hz : sizeBlock lfreq dfreq blOf = .ok z) :
    (∀ f ∈ s.dynamicFields final z, f.fits = true) ∧
    (fieldBits (s.dynamicFields final z)).length ≤ 16384 + 64 * s.qn := by
  have hcodes := built_fit hz
  obtain ⟨htables, htableLen⟩ := tableFields_fit hl hd hz
  have heob : ∀ f ∈ eobFields z.codes, f.fits = true := by simpa [eobFields] using hcodes.1 256
  constructor
  · simp only [State.dynamicFields, List.cons_append, List.forall_mem_cons, List.forall_mem_append]
    exact ⟨headerField_fits _ _, ⟨htables, queueFields_fit hcodes hc hq⟩, heob⟩
  · have htableBits := fieldBits_length_le htables
    have hqueueBits := queueFields_length_le hcodes hc hq
    have heobBits : _ ≤ 16 * 1 := fieldBits_length_le heob
    simp only [fieldBits_dynamicFields, List.length_append, bits_length]
    omega

end

/-- Line 12 of CLOSE_BLOCK, in the encoding SELECT takes: within the preconditions, and of bounded length. -/
theorem emitBlock_writesOrTooLong {s : State} (hs : s.Closable) {z : Sizing} (final : Bool)
    (hz : sizeBlock (tallyEob s.lfreq) s.dfreq (fun seq => tallySequence seq s.blfreq) = .ok z) :
    ∃ n ≤ maxBlockBits, WritesOrTooLong s.ser n (emitBlock (s.choice z) final z (s.beginSizing.beginEmitting z)) := by
  obtain ⟨-, hc, hwf, hq, hroom, hl, hd⟩ := hs
  have hcap : s.params.qcap ≤ 65535 := by
    obtain ⟨-, ⟨-, hcap⟩, -⟩ := hc
    exact hcap
  have hl : (tallyEob s.lfreq).length = 286 := by simpa [tallyEob, bump] using hl
  cases hk : s.choice z with
  | stored =>
    have hlen := blkLen_le_of_choice_stored hk
    have hbytes : (s.beginSizing.beginEmitting z).blockBytes.length ≤ s.blkLen := List.length_take_le ..
    exact ⟨_, by unfold maxBlockBits; omega,
      emitStored_writesOrTooLong (s := s.beginSizing.beginEmitting z) hwf hlen final⟩
  | fixed =>
    have hlen : (fieldBits ((s.beginSizing.beginEmitting z).staticFields final)).length ≤ 10 + 64 * s.qn :=
      staticFields_length_le hc hq final
    exact ⟨_, by unfold maxBlockBits; omega, putFields_writesOrTooLong hwf (staticFields_fit hc hq final)⟩
  | dynamic =>
    obtain ⟨hfit, hlen⟩ := dynamicFields_fit (s := s.beginSizing.beginEmitting z) hc hq final hl hd hz
    have hlen : (fieldBits ((s.beginSizing.beginEmitting z).dynamicFields final z)).length ≤ 16384 + 64 * s.qn := hlen
    exact ⟨_, by unfold maxBlockBits; omega, putFields_writesOrTooLong hwf hfit⟩

/-! ### Runs that only give up for want of room -/

/-- Every way the run `r` can end: with a result that satisfies `Q`, with an internal fault of the core, or, unless there is
`room`, refused as a stream too long. It does not get stuck, and it breaks no precondition. -/
def Proceeds {α : Type} (room : Prop) (Q : α → Prop) : Except Stop α → Prop
  | .ok a => Q a
  | .error (.trap _ _ _) => True
  | .error (.stuck _) => False
  | .error (.refuse r) => r = .streamTooLong ∧ ¬room

section Proceeds
variable {α β : Type} {room : Prop} {Q : α → Prop} {R : β → Prop}

theorem Proceeds.bind {r : Except Stop α} {f : α → Except Stop β} (h : Proceeds room Q r)
    (hf : ∀ a, r = .ok a → Q a → Proceeds room R (f a)) : Proceeds room R (r.bind f) := by
  rcases r with (⟨code, info, s⟩ | stuck | refused) | a
  · trivial
  · exact h
  · exact h
  · exact hf a rfl h

theorem Proceeds.imp {Q' : α → Prop} {r : Except Stop α} (h : Proceeds room Q r) (hQ : ∀ a, r = .ok a → Q a → Q' a) :
    Proceeds room Q' r := by
  rcases r with (⟨code, info, s⟩ | stuck | refused) | a
  · trivial
  · exact h
  · exact h
  · exact hQ a rfl h

/-- A serializer operation that has what room there is for its bits. -/
theorem WritesOrTooLong.proceeds {z : Serializer} {n : Nat} {r : Except Refusal Serializer} (h : WritesOrTooLong z n r)
    (hroom : room → z.bitpos + n < Config.maxBitpos) :
    Proceeds room (fun w => w.bitpos = z.bitpos + n) (liftRefusal r) := by
  cases r with
  | ok w => exact h.2
  | error e =>
    obtain ⟨he, hfull⟩ := h
    exact ⟨he, fun hr => absurd (hroom hr) (Nat.not_lt.2 hfull)⟩

/-- The outcome of a command whose run proceeds. -/
theorem finish_of_proceeds {Q : State → Prop} {r : Except Stop State} (h : Proceeds room Q r) :
    (∀ f, finish r ≠ .fault f) ∧ (∀ e, finish r = .refused e → e = .streamTooLong) ∧
    (room → ∃ t, finish r = .next t) := by
  rcases r with (⟨code, info, s⟩ | stuck | e) | t
  · exact ⟨nofun, nofun, fun _ => ⟨_, rfl⟩⟩
  · exact h.elim
  · obtain ⟨rfl, hfull⟩ := h
    exact ⟨nofun, fun _ h => (Host.Outcome.refused.inj h).symm, fun hroom => absurd hroom hfull⟩
  · exact ⟨nofun, nofun, fun _ => ⟨t, rfl⟩⟩

end Proceeds

/-! ### The micro-operations of STEP -/

section
variable {room : Prop} {s : State}

theorem closeBlock_proceeds (final : Bool) (hs : s.Closable)
    (hroom : room → s.ser.bitpos + maxBlockBits < Config.maxBitpos) :
    Proceeds room (fun t => t.ser.bitpos ≤ s.ser.bitpos + maxBlockBits) (closeBlock final s) := by
  rw [closeBlock, if_pos hs.phase]
  dsimp only
  split
  · trivial
  · next z hz =>
    obtain ⟨n, hn, hw⟩ := emitBlock_writesOrTooLong hs final hz
    rw [choice_beginEmitting hs.phase]
    refine (hw.proceeds fun hr => by have := hroom hr; omega).bind fun w _ hpos => ?_
    rw [resetBlock_eq]
    exact hpos.trans_le (Nat.add_le_add_left hn _)

/-- TALLY finds room in the queue, and closes the block where it took the last place (40_match_finder.md R126). -/
theorem tokenStep_proceeds (hs : s.MidStep) (hroom : room → s.ser.bitpos + maxBlockBits < Config.maxBitpos) :
    Proceeds room (fun t => t.ser.bitpos ≤ s.ser.bitpos + maxBlockBits) (tokenStep s) := by
  have hqn : (advance (find s) s).qn < (advance (find s) s).params.qcap := hs.2.room
  have hser : (record (find s) (advance (find s) s)).ser = s.ser := by simp
  rw [tokenStep, tally, if_pos hqn]
  dsimp only
  split
  · rw [← hser] at hroom ⊢
    exact closeBlock_proceeds false (record_advance_closable hs) hroom
  · exact hser ▸ Nat.le_add_right _ _

end

/-! ### The loop of STEP (44_host_commands.md R205) -/

/-- There is room for a block at every byte still to be taken, for one more block, and for the padding of FINISH. -/
def State.HasRoom (s : State) : Prop :=
  s.totalIn + s.inLen.toNat < Config.maxTotalIn ∧
  s.ser.bitpos + maxBlockBits * (s.la + s.inLen.toNat + 1) + 7 < Config.maxBitpos

/-- What holds at every micro-operation of a STEP that began in a state that meets the invariant, with or without
`room`. -/
def State.Ready (room : Prop) (s : State) : Prop := s.MidStep ∧ (room → s.HasRoom)

section
variable {room : Prop} {s : State}

theorem State.HasRoom.closes (h : s.HasRoom) : s.ser.bitpos + maxBlockBits + 7 < Config.maxBitpos := by
  obtain ⟨-, h⟩ := h
  rw [Nat.mul_succ] at h
  omega

theorem fill_proceeds (hs : s.Ready room) : Proceeds room (State.Ready room) (fill s) := by
  obtain ⟨hmid, hroom⟩ := hs
  cases hr : fill s with
  | ok t =>
    refine ⟨fill_midStep hmid hr, fun h => ?_⟩
    obtain ⟨htotal, hbits⟩ := hroom h
    obtain ⟨-, hrange, htotal', hp, -⟩ := fill_moves hr
    have hser : t.ser = s.ser := by rw [(fill_eq_ok hr).2]
    have hconsumed := hmid.1.consumed
    have hleft : t.la + t.inLen.toNat = s.la + s.inLen.toNat := by
      simp only [State.la]
      omega
    refine ⟨by omega, ?_⟩
    rwa [hser, hleft]
  | error e =>
    unfold fill at hr
    dsimp only at hr
    split at hr
    · cases hr
    · next hfull =>
      cases hr
      refine ⟨rfl, fun h => hfull ?_⟩
      exact (Nat.add_le_add_left (min_le_left ..) _).trans_lt (hroom h).1

/-- A token takes a byte of lookahead, which pays for the block it may close. -/
theorem tokenStep_ready (hs : s.Ready room) (hcan : s.canFind = true) :
    Proceeds room (State.Ready room) (tokenStep s) := by
  obtain ⟨hmid, hroom⟩ := hs
  refine (tokenStep_proceeds hmid fun h => by have := (hroom h).closes; omega).imp fun t ht hbits => ?_
  refine ⟨(tally_midStep hmid hcan).of_ok ht, fun h => ?_⟩
  obtain ⟨htotal, hleft⟩ := hroom h
  have hinput := (tokenStep_inputSide ht).1
  have hla := tokenStep_la hcan ht
  refine ⟨by rwa [inputSide_totalIn hinput, inputSide_inLen hinput], ?_⟩
  rw [inputSide_inLen hinput]
  have hpaid : maxBlockBits * (t.la + s.inLen.toNat + 1) + maxBlockBits ≤
      maxBlockBits * (s.la + s.inLen.toNat + 1) := by
    rw [← Nat.mul_succ]
    exact Nat.mul_le_mul_left _ (by omega)
  omega

theorem matchLoop_proceeds (fuel : Nat) (hs : s.Ready room) :
    Proceeds room (fun r => r.1.Ready room) (matchLoop fuel s) := by
  induction fuel generalizing s with
  | zero => exact hs
  | succ fuel ih =>
    rw [matchLoop]
    split
    · next hcan => exact (tokenStep_ready hs hcan).bind fun u _ hu => (ih hu).bind fun _ _ hr => hr
    · exact hs

theorem fillIfEnabled_proceeds (hs : s.Ready room) : Proceeds room (State.Ready room) (fillIfEnabled s) := by
  unfold fillIfEnabled
  split
  · exact fill_proceeds hs
  · exact hs

theorem quiesce_proceeds (fuel : Nat) (hs : s.Ready room) : Proceeds room (State.Ready room) (quiesce fuel s) := by
  induction fuel generalizing s with
  | zero => exact hs
  | succ fuel ih =>
    rw [quiesce]
    refine (fillIfEnabled_proceeds hs).bind fun u _ hu => (matchLoop_proceeds u.la hu).bind fun r _ hr => ?_
    split
    · exact ih ⟨midStep_of_flags hr.1 r.1.flags true, hr.2⟩
    · exact hr

/-- Lines 12 to 15 of STEP: one block, and less than a byte of padding. -/
theorem closeByFlags_proceeds (fl : BitVec 2) (hs : s.Ready room) :
    Proceeds room (fun _ => True) (closeByFlags fl s) := by
  obtain ⟨hmid, hroom⟩ := hs
  have hclose (final : Bool) := closeBlock_proceeds (room := room) final hmid.closable fun h => by
    have := (hroom h).closes
    omega
  unfold closeByFlags
  split
  · refine (hclose true).bind fun u hu hbits => ?_
    have hser : u.ser.wf := ((closeBlock_midStep hmid.1).of_ok hu).1.ser
    refine ((align_writesOrTooLong hser).proceeds fun h => ?_).bind fun _ _ _ => trivial
    have := (hroom h).closes
    omega
  · split
    · exact (hclose false).bind fun _ _ _ => trivial
    · trivial

theorem runStep_proceeds (fl : BitVec 2) (hs : s.Ready room) : Proceeds room (fun _ => True) (runStep fl s) := by
  rw [runStep]
  split
  · trivial
  · exact (quiesce_proceeds s.stepFuel hs).bind fun u _ hu =>
      (closeByFlags_proceeds fl hu).bind fun _ _ _ => trivial

end

/-! ### Every STEP -/

/-- Away from the counters' bound (93_implementation_defined.md U11). -/
def State.FarFromBound (s : State) : Prop := s.totalIn + s.inLen.toNat < 2 ^ 61 ∧ s.ser.bitpos < 2 ^ 63

/-- Lookahead and range hold less than `2^33` bytes, so `2^57` bits are room enough. -/
theorem State.FarFromBound.hasRoom {s : State} (hs : s.MidStep) (h : s.FarFromBound) : s.HasRoom := by
  obtain ⟨htotal, hbits⟩ := h
  obtain ⟨-, -, ⟨-, hcap⟩, -⟩ := hs.1.host.1
  have hla := hs.1.lookahead
  refine ⟨htotal, ?_⟩
  unfold maxBlockBits Config.maxBitpos
  omega

/-- Between commands: in `ACCUMULATING` STEP runs, in `DONE` and in `FAULT` it only answers. -/
theorem exec_step_proceeds {s : State} (hs : s.Inv) (fl : BitVec 2) :
    ∃ r, exec (.step fl) s = finish r ∧ Proceeds s.FarFromBound (fun _ => True) r := by
  rcases hs.control.1 with hp | hp | hp
  · have hmid : (s.beginStep fl).MidStep := midStep_of_flags ((midStep_iff s).2 ⟨hs, hp⟩) fl false
    exact ⟨_, unlessFaulted_run _ (by simp [hp]), runStep_proceeds fl ⟨hmid, fun h => h.hasRoom hmid⟩⟩
  · refine ⟨_, unlessFaulted_run _ (by simp [hp]), ?_⟩
    rw [runStep, beginStep_phase, if_pos hp]
    trivial
  · exact ⟨.ok _, unlessFaulted_fault _ hp, trivial⟩

/-- Settles O15: `exec_step_proceeds`; each token's byte pays for the block it may close, so away from the bound no counter
leaves its range. -/
theorem stepKeepsEveryPrecondition : Obligations.StepKeepsEveryPrecondition := by
  unfold Obligations.StepKeepsEveryPrecondition
  intro fl s hs
  obtain ⟨r, hexec, hr⟩ := exec_step_proceeds hs fl
  obtain ⟨hstuck, hrefused, hnext⟩ := finish_of_proceeds hr
  rw [hexec]
  exact ⟨hstuck, hrefused, fun htotal hbits => hnext ⟨htotal, hbits⟩⟩

end Sys2Proof.Machine

/-! PROOFS of the family 44_host_commands.md: the commands that answer at once (R201 to R203, R207), what a STEP that
answers `OK` is made of, and what it consumes, writes, reports and leaves alone (R205, R206). -/

namespace Sys2Proof.Machine

/-! ### The commands that answer at once (44_host_commands.md R201 to R203, R207) -/

/-- Settles O2: the meaning of the row, with both resets written out. -/
theorem resetRestoresEverything : Obligations.ResetRestoresEverything := by
  unfold Obligations.ResetRestoresEverything
  exact fun s => rfl

/-- Outside `FAULT` SET_INPUT makes its three checks in order (44_host_commands.md R202). -/
theorem exec_setInput {s : State} (hp : s.phase ≠ .fault) : exec .setInput s =
    if s.phase = .done then .next (raiseFault .finished 0 s)
    else if s.inLen ≠ 0 then .next (raiseFault .inputPending s.inLen s)
    else if s.rangeOutOfBounds then .next (raiseFault .bounds s.ibufSize s)
    else .next (respondOk 0 { s with inOff := s.argOff, inLen := s.argLen }) :=
  unlessFaulted_run _ hp

theorem rangeOutOfBounds_iff (s : State) :
    s.rangeOutOfBounds = true ↔ s.ibufSize.toNat < s.argOff.toNat + s.argLen.toNat := decide_eq_true_iff

/-- Settles O3: the branches of `exec_setInput`. -/
theorem setInputChecksThenLoads : Obligations.SetInputChecksThenLoads := by
  unfold Obligations.SetInputChecksThenLoads
  intro s hp
  rw [exec_setInput hp]
  refine ⟨fun hdone => ?_, fun hdone hin => ?_, fun hdone hin hout => ?_, fun hdone hin hfits => ?_⟩
  · rw [if_pos hdone]
    rfl
  · rw [if_neg hdone, if_pos hin]
    rfl
  · rw [if_neg hdone, if_neg (not_not.2 hin), if_pos ((rangeOutOfBounds_iff s).2 hout)]
    rfl
  · rw [if_neg hdone, if_neg (not_not.2 hin), if_neg (mt (rangeOutOfBounds_iff s).1 (Nat.not_lt.2 hfits))]
    rfl

/-- Outside `FAULT` NEEDS_INPUT answers its predicate (44_host_commands.md R203). -/
theorem exec_needsInput {s : State} (hp : s.phase ≠ .fault) :
    exec .needsInput s = .next (respondOk (.ofNat 32 s.inputConsumed.toNat) s) := unlessFaulted_run _ hp

/-- Settles O4: the two values of the predicate. -/
theorem needsInputAnswersPredicate : Obligations.NeedsInputAnswersPredicate := by
  unfold Obligations.NeedsInputAnswersPredicate
  intro s hp
  rw [exec_needsInput hp]
  constructor
  · intro hin
    have hyes : s.inputConsumed = true := decide_eq_true hin
    rw [hyes]
    rfl
  · intro hin
    have hno : s.inputConsumed = false := decide_eq_false hin
    rw [hno]
    rfl

/-- Settles O5: the answer is `CKSUM`, which R29 gives as the fold. -/
theorem checksumAnswersFold : Obligations.ChecksumAnswersFold := by
  unfold Obligations.ChecksumAnswersFold
  intro s hp hck
  have hexec : exec .getChecksum s = .next (respondOk s.cksum s) := unlessFaulted_run _ hp
  rw [hexec, ← hck hp]
  rfl

/-! ### A STEP that has nothing to do (44_host_commands.md R205, corner cases (d) and (e)) -/

/-- Outside `FAULT` STEP runs its lines 1 to 16. -/
theorem exec_step {s : State} (hp : s.phase ≠ .fault) (fl : BitVec 2) :
    exec (.step fl) s = finish (runStep fl (s.beginStep fl)) := unlessFaulted_run _ hp

/-- Settles O8: line 2 answers in `DONE`. -/
theorem stepInDoneSetsFlagsOnly : Obligations.StepInDoneSetsFlagsOnly := by
  unfold Obligations.StepInDoneSetsFlagsOnly
  intro fl s hp
  rw [exec_step (by simp [hp]), runStep, beginStep_phase, if_pos hp]
  rfl

/-- The condition of line 15 of STEP. -/
theorem flushes_iff (fl : BitVec 2) (s : State) :
    (flushFlag fl && decide (0 < s.qn)) = true ↔ flushFlag fl = true ∧ s.q ≠ [] := by
  simp [State.qn, List.length_pos_iff]

theorem closeByFlags_of_none {fl : BitVec 2} {s : State} (hfin : finishFlag fl = false)
    (hflush : flushFlag fl = true → s.q = []) : closeByFlags fl s = .ok s := by
  rw [closeByFlags, hfin, if_neg Bool.false_ne_true, if_neg]
  rwa [flushes_iff, not_and_not_right]

/-- Settles O9: STEP's loop is quiet at once, and no flag closes a block. -/
theorem stepWithNothingToDoAnswersZero : Obligations.StepWithNothingToDoAnswersZero := by
  unfold Obligations.StepWithNothingToDoAnswersZero
  intro fl s hp hin hfin hplain hflag
  have hfill : (s.beginStep fl).fillEnabled = false := by simp [State.fillEnabled, hin]
  have hfind : (s.beginStep fl).canFind = false := by
    by_cases hfl : fl = 0
    · rw [Bool.eq_false_iff, ne_eq, canFind_iff]
      rintro ⟨-, -, hla | ⟨-, hne⟩⟩
      · exact absurd (hplain hfl) (Nat.not_lt.2 hla)
      · exact hne hfl
    · exact not_canFind_of_la (hflag hfl).1
  have hflush : flushFlag fl = true → s.q = [] := by
    intro hflush
    refine (hflag ?_).2
    rintro rfl
    exact absurd hflush (by decide)
  have hdone : (s.beginStep fl).phase ≠ .done := by simp [hp]
  have hclose : closeByFlags fl (s.beginStep fl) = .ok (s.beginStep fl) := closeByFlags_of_none hfin hflush
  rw [exec_step (by simp [hp]), runStep, if_neg hdone, quiesce_of_quiet ⟨hfill, hfind⟩]
  simp only [Except.bind, hclose]
  rfl

/-! ### What a STEP that answers `OK` is made of (44_host_commands.md R205) -/

/-- The quiet state at line 11, the state after the flags, and the response. -/
theorem exec_step_ok {fl : BitVec 2} {s t : State} (hp : s.phase = .accumulating) (h : exec (.step fl) s = .next t)
    (hok : t.rerr = false) : ∃ u v, quiesce (s.beginStep fl).stepFuel (s.beginStep fl) = .ok u ∧
      closeByFlags fl u = .ok v ∧ t = respondProgress v := by
  rw [exec_step (by simp [hp])] at h
  rcases finish_next h with h | ⟨code, info, u, -, rfl⟩
  · exact runStep_ok (by simp [hp]) h
  · exact absurd hok (by simp [raiseInternalFault])

/-- A STEP from a state between commands feeds the pending range. -/
theorem beginStep_feeding {s : State} (hs : s.Inv) (hp : s.phase = .accumulating) (fl : BitVec 2) :
    Feeding fl (s.totalIn + s.inLen.toNat) (s.inOff + s.inLen) (s.beginStep fl) :=
  ⟨midStep_of_flags ((midStep_iff s).2 ⟨hs, hp⟩) fl false, rfl, rfl, rfl⟩

/-- Lines 12 to 15 of STEP: FINISH closes a final block, pads and ends the run; FLUSH closes a block if a token is
queued; otherwise nothing happens. -/
theorem closeByFlags_ok {fl : BitVec 2} {u v : State} (h : closeByFlags fl u = .ok v) :
    (finishFlag fl = true ∧ ∃ c ser, closeBlock true u = .ok c ∧ align c.ser = .ok ser ∧
      v = { c with ser := ser, phase := .done, progress := true }) ∨
    (finishFlag fl = false ∧ flushFlag fl = true ∧ u.q ≠ [] ∧ ∃ c, closeBlock false u = .ok c ∧
      v = { c with progress := true }) ∨
    (finishFlag fl = false ∧ (flushFlag fl = true → u.q = []) ∧ v = u) := by
  unfold closeByFlags at h
  split at h
  · next hfin =>
    obtain ⟨c, hc, h⟩ := bind_ok h
    obtain ⟨ser, hser, h⟩ := (emitThen_ok ..).1 h
    exact .inl ⟨hfin, c, ser, hc, hser, (Except.ok.inj h).symm⟩
  · next hfin =>
    rw [Bool.not_eq_true] at hfin
    split at h
    · next hflush =>
      obtain ⟨c, hc, h⟩ := bind_ok h
      obtain ⟨hflush, hq⟩ := (flushes_iff fl u).1 hflush
      exact .inr (.inl ⟨hfin, hflush, hq, c, hc, (Except.ok.inj h).symm⟩)
    · next hflush =>
      rw [flushes_iff, not_and_not_right] at hflush
      exact .inr (.inr ⟨hfin, hflush, (Except.ok.inj h).symm⟩)

/-- The flags move no input. -/
theorem closeByFlags_inputSide {fl : BitVec 2} {u v : State} (h : closeByFlags fl u = .ok v) :
    v.inputSide = u.inputSide ∧ v.p = u.p := by
  rcases closeByFlags_ok h with ⟨-, c, ser, hc, -, rfl⟩ | ⟨-, -, -, c, hc, rfl⟩ | ⟨-, -, rfl⟩
  · exact (closeBlock_inputSide hc :)
  · exact (closeBlock_inputSide hc :)
  · exact ⟨rfl, rfl⟩

/-- What FILL, recording a token, resetting the block and `PROGRESS` each leave the same, a STEP leaves the same. -/
theorem keptInStep_of_frame {α : Type} {φ : State → α} (hfill : ∀ s t, fill s = .ok t → φ t = φ s)
    (hrecord : ∀ k s, φ (record k (advance k s)) = φ s)
    (hreset : ∀ s ser, φ { s.clearedBlock with ser := ser, phase := .accumulating } = φ s)
    (hprogress : ∀ s, φ { s with progress := true } = φ s) (a : α) :
    KeptInStep (fun _ _ => True) fun s => φ s = a where
  fill s hs _ := fill_ends fun t ht => (hfill s t ht).trans hs
  tally s hs _ :=
    have hrec := (hrecord (find s) s).trans hs
    tally_ends (fun _ => closeBlock_ends trivial fun _ _ ser _ => (hreset _ ser).trans hrec) fun _ => hrec
  close _ s hs := closeBlock_ends trivial fun _ _ ser _ => (hreset s ser).trans hs
  progress s hs := (hprogress s).trans hs

/-! ### The range is consumed (44_host_commands.md R205 line 11, 10_state.md R40 (d)) -/

/-- The bytes consumed and those still pending. -/
def State.wholeInput (s : State) : List Byte := s.window ++ s.inputBytes s.inLen.toNat

theorem wholeInput_kept (bytes : List Byte) : KeptInStep (fun _ _ => True) fun s => s.wholeInput = bytes :=
  keptInStep_of_frame (fun _ _ h => congrArg State.window (fill_supplied (fl := 0) (k := 0) h))
    (fun k _ => by cases k <;> rfl) (fun _ _ => rfl) (fun _ => rfl) bytes

/-- With nothing pending all of it is consumed. -/
theorem wholeInput_of_consumed {s : State} (hin : s.inLen = 0) : s.wholeInput = s.window := by
  rw [State.wholeInput, hin]
  exact List.append_nil _

/-- Settles O12: STEP's loop ends quiet, with the input it began with, and the flags move no input. -/
theorem stepRunsToQuiescence : Obligations.StepRunsToQuiescence := by
  unfold Obligations.StepRunsToQuiescence
  intro fl s t hs hp h hok
  obtain ⟨u, v, hu, hv, rfl⟩ := exec_step_ok hp h hok
  obtain ⟨hfed, hin, hla⟩ := quiesce_consumed (beginStep_feeding hs hp fl) hu
  obtain ⟨-, hshort, -⟩ := (quiesce_stepFuel_quiet hu).consumed hfed.mid.1.phase hfed.mid.1.host.1
  have hwhole : u.wholeInput = s.wholeInput :=
    ((wholeInput_kept s.wholeInput).quiesce_ends (s := s.beginStep fl) _ rfl).of_ok hu
  rw [wholeInput_of_consumed hin] at hwhole
  have hrange : u.inOff = s.inOff + s.inLen := by simpa [hin] using hfed.range
  obtain ⟨hinput, hpos⟩ := closeByFlags_inputSide hv
  have htotal := inputSide_totalIn hinput
  have hla' : (respondProgress v).la = u.la := by
    change v.totalIn - v.p = u.totalIn - u.p
    rw [htotal, hpos]
  simp only [State.inputSide, Prod.mk.injEq] at hinput
  obtain ⟨hwindow, -, hoff, hlen, -, hparams⟩ := hinput
  refine ⟨hlen.trans hin, hoff.trans hrange, hwindow.trans hwhole, fun hfl => hla'.trans (hla hfl), fun _ => ?_⟩
  rw [hla']
  exact hparams ▸ hshort

/-! ### What an emission writes (30_encoding.md R85, 43_bit_serializer.md R190 to R192) -/

section
variable {z w : Serializer} (hz : z.wf)
include hz

theorem putBits_stream {f : BitField} (h : putBits f z = .ok w) : w.stream = z.stream ++ f.bits := by
  obtain ⟨hf, -, rfl⟩ := putBits_eq_ok h
  exact push_stream hz hf

theorem putFields_stream {fs : List BitField} (h : putFields fs z = .ok w) :
    w.wf ∧ w.stream = z.stream ++ fieldBits fs := by
  induction fs generalizing z with
  | nil =>
    cases h
    exact ⟨hz, (List.append_nil _).symm⟩
  | cons f fs ih =>
    obtain ⟨y, hy, h⟩ := serThen_ok h
    obtain ⟨hw, hstream⟩ := ih (putBits_sound hz hy).1 h
    exact ⟨hw, by rw [hstream, putBits_stream hz hy, fieldBits_cons, List.append_assoc]⟩

theorem align_stream (h : align z = .ok w) : w.wf ∧ ∃ k < 8, w.stream = z.stream ++ List.replicate k false := by
  unfold align at h
  split at h
  · cases h
    exact ⟨hz, 0, by decide, (List.append_nil _).symm⟩
  · next hnb =>
    have hpos : z.nb.toNat ≠ 0 := fun h => hnb (BitVec.eq_of_toNat_eq h)
    exact ⟨(putBits_sound hz h).1, 8 - z.nb.toNat, by omega, bits_zero (8 - z.nb.toNat) ▸ putBits_stream hz h⟩

theorem putBytes_stream {bs : List Byte} (h : putBytes bs z = .ok w) : w.wf ∧ w.stream = z.stream ++ byteBits bs := by
  refine ⟨(putBytes_sound hz h).1, ?_⟩
  have hnb : z.nb = 0 := by
    by_contra hnb
    rw [putBytes, if_neg hnb] at h
    cases h
  rw [putBytes_eq_ok h]
  simp [Serializer.stream, hnb, bits]

end

theorem headerField_bits (kind : BlockKind) (final : Bool) :
    (headerField kind final).bits = final :: bits kind.btype 2 := by
  cases kind <;> cases final <;> rfl

theorem putFields_header_stream {kind : BlockKind} {final : Bool} {fs : List BitField} {z w : Serializer} (hz : z.wf)
    (h : putFields (headerField kind final :: fs) z = .ok w) : w.wf ∧ ∃ bs, w.stream = z.stream ++ final :: bs := by
  obtain ⟨hwf, hstream⟩ := putFields_stream hz h
  rw [hstream, fieldBits_cons, headerField_bits, List.cons_append]
  exact ⟨hwf, _, rfl⟩

/-- A block begins with its `BFINAL`, in each encoding. -/
theorem emitBlock_stream {kind : BlockKind} {final : Bool} {z : Sizing} {s : State} {w : Serializer} (hs : s.ser.wf)
    (h : emitBlock kind final z s = .ok w) : w.wf ∧ ∃ bs, w.stream = s.ser.stream ++ final :: bs := by
  cases kind with
  | stored =>
    obtain ⟨header, hheader, h⟩ := serThen_ok h
    obtain ⟨padded, hpadded, h⟩ := serThen_ok h
    obtain ⟨sized, hsized, h⟩ := serThen_ok h
    obtain ⟨hwf, k, -, hpad⟩ := align_stream (putBits_sound hs hheader).1 hpadded
    obtain ⟨hwf, hsize⟩ := putFields_stream hwf hsized
    obtain ⟨hwf, hbytes⟩ := putBytes_stream hwf h
    rw [hbytes, hsize, hpad, putBits_stream hs hheader, headerField_bits]
    simp only [List.append_assoc, List.cons_append]
    exact ⟨hwf, _, rfl⟩
  | fixed => exact putFields_header_stream hs h
  | dynamic => exact putFields_header_stream hs h

theorem closeBlock_stream {final : Bool} {s t : State} (hs : s.ser.wf) (h : closeBlock final s = .ok t) :
    t.ser.wf ∧ ∃ bs, t.ser.stream = s.ser.stream ++ final :: bs := by
  obtain ⟨-, z, w, -, hw, rfl⟩ := closeBlock_eq_ok h
  exact emitBlock_stream hs hw

/-- A block has a bit at least. -/
theorem closeBlock_bitpos_lt {final : Bool} {s t : State} (hs : s.ser.wf) (h : closeBlock final s = .ok t) :
    s.ser.bitpos < t.ser.bitpos := by
  obtain ⟨ht, bs, hstream⟩ := closeBlock_stream hs h
  rw [← stream_length hs, ← stream_length ht, hstream, List.length_append, List.length_cons]
  omega

/-! ### The flags and the stream (44_host_commands.md R205, R206; 42_block_coordinator.md R167) -/

/-- CLOSE_BLOCK leaves an empty block, and the run goes on (42_block_coordinator.md R176). -/
theorem closeBlock_leaves {final : Bool} {s t : State} (h : closeBlock final s = .ok t) :
    t.phase = .accumulating ∧ t.q = [] ∧ t.blkStart = t.p := by
  obtain ⟨-, z, w, -, -, rfl⟩ := closeBlock_eq_ok h
  exact ⟨rfl, rfl, rfl⟩

/-- With no token queued the block is empty. -/
theorem blkStart_eq_p_of_empty {s : State} (hs : s.MidStep) (hq : s.q = []) : s.blkStart = s.p := by
  rw [← clearedBlock_of_empty hs hq]
  rfl

/-- On a byte boundary every bit is in `OUT`. -/
theorem stream_of_aligned {z : Serializer} (hnb : z.nb = 0) : z.stream = byteBits z.out := by
  simp [Serializer.stream, hnb, bits]

/-- Where lines 12 to 15 of STEP leave the phase, the queue and the position of the block. -/
theorem closeByFlags_leaves {fl : BitVec 2} {u v : State} (hu : u.MidStep) (h : closeByFlags fl u = .ok v) :
    (finishFlag fl = true → v.phase = .done ∧ v.ser.nb = 0 ∧ v.q = []) ∧
    (finishFlag fl = false → v.phase = .accumulating) ∧ (flushFlag fl = true → v.q = [] ∧ v.blkStart = v.p) := by
  rcases closeByFlags_ok h with ⟨hfin, c, ser, hc, hser, rfl⟩ | ⟨hfin, hflush, -, c, hc, rfl⟩ | ⟨hfin, hq, rfl⟩
  · obtain ⟨-, hq, hstart⟩ := closeBlock_leaves hc
    exact ⟨fun _ => ⟨rfl, align_nb hser, hq⟩, by simp [hfin], fun _ => ⟨hq, hstart⟩⟩
  · obtain ⟨hp, hq, hstart⟩ := closeBlock_leaves hc
    exact ⟨by simp [hfin], fun _ => hp, fun _ => ⟨hq, hstart⟩⟩
  · exact ⟨by simp [hfin], fun _ => hu.1.phase, fun hflush => ⟨hq hflush, blkStart_eq_p_of_empty hu (hq hflush)⟩⟩

/-- What lines 12 to 15 of STEP write under FINISH. -/
theorem closeByFlags_finish {fl : BitVec 2} {u v : State} (hu : u.ser.wf) (hfin : finishFlag fl = true)
    (h : closeByFlags fl u = .ok v) : ∃ c bs k, closeBlock true u = .ok c ∧
      c.ser.stream = u.ser.stream ++ true :: bs ∧ k < 8 ∧ v.ser.stream = c.ser.stream ++ List.replicate k false := by
  rcases closeByFlags_ok h with ⟨-, c, ser, hc, hser, rfl⟩ | ⟨hopen, -⟩ | ⟨hopen, -⟩
  · obtain ⟨hwf, bs, hstream⟩ := closeBlock_stream hu hc
    obtain ⟨-, k, hk, hpad⟩ := align_stream hwf hser
    exact ⟨c, bs, k, hc, hstream, hk, hpad⟩
  · simp [hfin] at hopen
  · simp [hfin] at hopen

/-- What they write without FINISH: a block that is not final, where FLUSH finds a token, and nothing otherwise. -/
theorem closeByFlags_open {fl : BitVec 2} {u v : State} (hu : u.ser.wf) (hfin : finishFlag fl = false)
    (h : closeByFlags fl u = .ok v) :
    (flushFlag fl = true → u.q ≠ [] → ∃ c bs, closeBlock false u = .ok c ∧
      c.ser.stream = u.ser.stream ++ false :: bs ∧ v.ser = c.ser) ∧
    ((flushFlag fl = true → u.q = []) → v.ser = u.ser) := by
  rcases closeByFlags_ok h with ⟨hdone, -⟩ | ⟨-, hflush, hq, c, hc, rfl⟩ | ⟨-, hq, rfl⟩
  · simp [hfin] at hdone
  · obtain ⟨-, bs, hstream⟩ := closeBlock_stream hu hc
    exact ⟨fun _ _ => ⟨c, bs, hc, hstream, rfl⟩, fun hnone => absurd (hnone hflush) hq⟩
  · exact ⟨fun hflush hne => absurd (hq hflush) hne, fun _ => rfl⟩

/-- Settles O14: `closeByFlags_leaves` for the state, `closeByFlags_finish` and `closeByFlags_open` for the stream. -/
theorem flagsCloseTheStream : Obligations.FlagsCloseTheStream := by
  unfold Obligations.FlagsCloseTheStream
  intro fl s t hs hp h hok
  obtain ⟨u, v, hu, hv, rfl⟩ := exec_step_ok hp h hok
  obtain ⟨⟨hmid, -⟩, -⟩ := quiesce_consumed (beginStep_feeding hs hp fl) hu
  have hwf := hmid.1.ser
  obtain ⟨hdone, hopen, hflushed⟩ := closeByFlags_leaves hmid hv
  refine ⟨fun hfin => ?_, hopen, ?_, u, hu, fun hfin => (closeByFlags_finish hwf hfin hv :), ?_, ?_, ?_⟩
  · obtain ⟨hp, hnb, hq⟩ := hdone hfin
    exact ⟨hp, hnb, hq, stream_of_aligned hnb⟩
  · rintro rfl
    exact hflushed rfl
  · rintro rfl hq
    exact (closeByFlags_open hwf rfl hv).1 rfl hq
  · rintro rfl hq
    exact (closeByFlags_open hwf rfl hv).2 fun _ => hq
  · rintro rfl
    exact (closeByFlags_open hwf rfl hv).2 nofun

/-! ### PROGRESS (44_host_commands.md R205, 10_state.md R24) -/

/-- One pass of STEP's loop: nothing moved and nothing changed, or something moved and there is less work left. -/
theorem pass_idle_or_moves {s u : State} {r : State × Bool} (hu : fillIfEnabled s = .ok u)
    (hr : matchLoop u.la u = .ok r) :
    ((s.fillEnabled || r.2) = false ∧ r.1 = s) ∨ ((s.fillEnabled || r.2) = true ∧ r.1.work < s.work) := by
  rcases fillIfEnabled_cases hu with ⟨hfill, hu⟩ | ⟨hfill, rfl⟩ <;>
    rcases matchLoop_work hr with ⟨hmatch, hsame⟩ | ⟨hmatch, hless⟩
  · exact .inr ⟨by simp [hfill], hsame ▸ fill_work hfill hu⟩
  · exact .inr ⟨by simp [hfill], hless.trans (fill_work hfill hu)⟩
  · exact .inl ⟨by simp [hfill, hmatch], hsame⟩
  · exact .inr ⟨by simp [hmatch], hless⟩

/-- STEP's loop changes nothing, or it works and sets `PROGRESS`. -/
theorem quiesce_idle_or_works {fuel : Nat} {s t : State} (h : quiesce fuel s = .ok t) :
    t = s ∨ (t.progress = true ∧ t.work < s.work) := by
  induction fuel generalizing s with
  | zero => exact .inl (Except.ok.inj h).symm
  | succ fuel ih =>
    obtain ⟨u, hu, h⟩ := bind_ok h
    obtain ⟨r, hr, h⟩ := bind_ok h
    rcases pass_idle_or_moves hu hr with ⟨hidle, hsame⟩ | ⟨hmoves, hless⟩
    · rw [hidle, if_neg Bool.false_ne_true] at h
      exact .inl ((Except.ok.inj h).symm.trans hsame)
    · rw [hmoves, if_pos rfl] at h
      rcases ih h with rfl | ⟨hprogress, hrest⟩
      · exact .inr ⟨rfl, hless⟩
      · exact .inr ⟨hprogress, hrest.trans hless⟩

theorem quiesce_bitpos_le {fuel : Nat} {s t : State} (h : quiesce fuel s = .ok t) : s.ser.bitpos ≤ t.ser.bitpos :=
  (((extends_kept s.ser).quiesce_ends fuel (.refl _)).of_ok h).2

/-- Lines 12 to 15 of STEP do nothing, or they write bits and set `PROGRESS`. -/
theorem closeByFlags_idle_or_writes {fl : BitVec 2} {u v : State} (hu : u.ser.wf) (h : closeByFlags fl u = .ok v) :
    v = u ∨ (v.progress = true ∧ u.ser.bitpos < v.ser.bitpos) := by
  rcases closeByFlags_ok h with ⟨-, c, ser, hc, hser, rfl⟩ | ⟨-, -, -, c, hc, rfl⟩ | ⟨-, -, rfl⟩
  · exact .inr ⟨rfl, (closeBlock_bitpos_lt hu hc).trans_le (align_extends hser).2⟩
  · exact .inr ⟨rfl, (closeBlock_bitpos_lt hu hc :)⟩
  · exact .inl rfl

/-- Settles O13: STEP's loop and the flags each do nothing or set `PROGRESS`; what the loop does takes a pending byte or
moves `P`, and what the flags do writes bits. -/
theorem stepProgressMeansWork : Obligations.StepProgressMeansWork := by
  unfold Obligations.StepProgressMeansWork
  intro fl s t hs hp h hok
  obtain ⟨u, v, hu, hv, rfl⟩ := exec_step_ok hp h hok
  obtain ⟨hfed, hin, -⟩ := quiesce_consumed (beginStep_feeding hs hp fl) hu
  have hbits : (s.beginStep fl).ser.bitpos ≤ u.ser.bitpos := quiesce_bitpos_le hu
  refine ⟨rfl, ?_⟩
  change v.progress = true ↔ s.inLen ≠ 0 ∨ v.p ≠ s.p ∨ v.ser.bitpos ≠ s.ser.bitpos
  rcases closeByFlags_idle_or_writes hfed.mid.1.ser hv with rfl | ⟨hprogress, hwrites⟩
  · rcases quiesce_idle_or_works hu with rfl | ⟨hprogress, hwork⟩
    · have hin : s.inLen = 0 := hin
      simp [hin]
    · refine iff_of_true hprogress ?_
      by_cases hnone : s.inLen = 0
      · have htotal : v.totalIn = s.totalIn := by simpa [hin, hnone] using hfed.total
        have hla : v.la < s.la := by simpa [State.work, hin, hnone] using hwork
        refine .inr (.inl fun hpos => hla.ne ?_)
        rw [State.la, State.la, htotal, hpos]
      · exact .inl hnone
  · exact iff_of_true hprogress (.inr (.inr (hbits.trans_lt hwrites).ne'))

/-! ### What a STEP leaves alone (44_host_commands.md R205, 10_state.md R22, R23) -/

/-- The flags, the fault registers and the count of unspecified states. -/
def State.faultSide (s : State) : BitVec 2 × FCode × Word × Nat := (s.flags, s.fcode, s.finfo, s.free)

theorem faultSide_kept (side : BitVec 2 × FCode × Word × Nat) :
    KeptInStep (fun _ _ => True) fun s => s.faultSide = side :=
  keptInStep_of_frame (fun _ _ h => by rw [(fill_eq_ok h).2]; rfl) (fun k _ => by cases k <;> rfl) (fun _ _ => rfl)
    (fun _ => rfl) side

/-- The position, the block's tables, queue and start, and the serializer. -/
def State.blockSide (s : State) : Nat × List Word × List Word × List Word × List QEntry × Nat × Serializer :=
  (s.p, s.lfreq, s.dfreq, s.blfreq, s.q, s.blkStart, s.ser)

/-- How far matching and writing have come. -/
def State.reached (s : State) : Nat := s.p + s.ser.bitpos

/-- `u` comes after `s` in a STEP: the block is as it was, or a token was matched or bits were written. -/
structure BlockKept (s u : State) : Prop where
  mid : u.MidStep
  kept : u.blockSide = s.blockSide ∨ s.reached < u.reached

theorem BlockKept.le {s u : State} (h : BlockKept s u) : s.reached ≤ u.reached := by
  rcases h.kept with hsame | hless
  · simp only [State.blockSide, Prod.mk.injEq] at hsame
    obtain ⟨hpos, -, -, -, -, -, hser⟩ := hsame
    rw [State.reached, State.reached, hpos, hser]
  · exact hless.le

theorem tokenStep_reached {s t : State} (hcan : s.canFind = true) (h : tokenStep s = .ok t) :
    s.reached < t.reached := by
  have hpos := (tokenStep_inputSide h).2
  obtain ⟨hspan, -⟩ := tokenReproducesInput s hcan
  have hbits : s.ser.bitpos ≤ t.ser.bitpos := (((extends_kept s.ser).tally s (.refl _) hcan).of_ok h).2
  simp only [State.reached]
  omega

theorem closeBlock_reached {final : Bool} {s t : State} (hs : s.ser.wf) (h : closeBlock final s = .ok t) :
    s.reached < t.reached := by
  rw [State.reached, State.reached, (closeBlock_inputSide h).2]
  exact Nat.add_lt_add_left (closeBlock_bitpos_lt hs h) _

theorem blockKept_kept (s : State) : KeptInStep (fun _ _ => True) (BlockKept s) where
  fill u hu _ := fill_ends fun v hv => by
    refine ⟨fill_midStep hu.mid hv, ?_⟩
    rw [(fill_eq_ok hv).2]
    exact hu.kept
  tally u hu hcan := ends_of_ok fun v hv =>
    ⟨(tally_midStep hu.mid hcan).of_ok hv, .inr (hu.le.trans_lt (tokenStep_reached hcan hv))⟩
  close _ u hu := ends_of_ok fun v hv =>
    ⟨(closeBlock_midStep hu.mid.1).of_ok hv, .inr (hu.le.trans_lt (closeBlock_reached hu.mid.1.ser hv))⟩
  progress u hu := ⟨midStep_of_flags hu.mid u.flags true, hu.kept⟩

/-- Settles O16: `faultSide_kept` for the fault registers; what touches the block, a token or its closing, raises
`State.reached`. -/
theorem stepFrame : Obligations.StepFrame := by
  unfold Obligations.StepFrame
  intro fl s t hs hp h hok
  obtain ⟨u, v, hu, hv, rfl⟩ := exec_step_ok hp h hok
  have hfaults := faultSide_kept (s.beginStep fl).faultSide
  have hside : v.faultSide = (s.beginStep fl).faultSide :=
    (hfaults.closeByFlags_ends ((hfaults.quiesce_ends _ rfl).of_ok hu) (fun _ h => h) fun _ _ _ h _ => h).of_ok hv
  simp only [State.faultSide, Prod.mk.injEq] at hside
  obtain ⟨hflags, hfcode, hfinfo, hfree⟩ := hside
  refine ⟨hflags, hfcode, hfinfo, hfree, fun hpos hbits => ?_⟩
  have hbegin := (beginStep_feeding hs hp fl).mid
  have hkept : BlockKept (s.beginStep fl) u := ((blockKept_kept _).quiesce_ends _ ⟨hbegin, .inl rfl⟩).of_ok hu
  have hstill : v.reached = (s.beginStep fl).reached := congrArg₂ (· + ·) hpos hbits
  rcases closeByFlags_idle_or_writes hkept.mid.1.ser hv with rfl | ⟨-, hwrites⟩
  · have hsame := hkept.kept.resolve_right hstill.not_gt
    simp only [State.blockSide, Prod.mk.injEq] at hsame
    exact hsame.2
  · have hmoved : u.reached < v.reached := by
      rw [State.reached, State.reached, (closeByFlags_inputSide hv).2]
      exact Nat.add_lt_add_left hwrites _
    exact absurd hstill (hkept.le.trans_lt hmoved).ne'

end Sys2Proof.Machine

/-! PROOFS of the family 60_exceptions.md: what a core in `FAULT` answers and keeps and what leads out of it (R222, R223),
and what an internal fault keeps (R221 (b)). -/

namespace Sys2Proof.Machine

/-! ### In `FAULT` (60_exceptions.md R222, 44_host_commands.md R200) -/

/-- Every command but RESET begins with the preamble. -/
theorem exec_decodeCmd_of_fault {w : Word} {s : State} (hp : s.phase = .fault) (hw : w ≠ 0) :
    exec (decodeCmd w) s = .next (respondErr s.fcode s) := by
  rcases decodeCmd_cases w with ⟨-, h0⟩ | hd | hd | hd | hd | ⟨fl, hd, -⟩
  · exact absurd h0 hw
  all_goals
    rw [hd]
    exact unlessFaulted_fault _ hp

/-- Settles O7: a write to `CMD` runs the word's command, which stops at the preamble (`exec_decodeCmd_of_fault`). -/
theorem faultedCoreAnswersErr : Obligations.FaultedCoreAnswersErr := by
  unfold Obligations.FaultedCoreAnswersErr
  exact fun w s hp hw => exec_decodeCmd_of_fault hp hw

/-! ### No return from `FAULT` but a reset (60_exceptions.md R222, R223; 10_state.md R22) -/

/-- What a core in `FAULT` holds on to: the phase, the fault registers, the stream, the window with its position and
checksum, the pending input and the queue. -/
def State.heldInFault (s : State) : Phase × FCode × Word × Serializer × List Byte × Nat × Word × List QEntry × Word :=
  (s.phase, s.fcode, s.finfo, s.ser, s.window, s.p, s.inLen, s.q, s.cksum)

theorem heldInFault_eq_iff (s t : State) : t.heldInFault = s.heldInFault ↔
    t.phase = s.phase ∧ t.fcode = s.fcode ∧ t.finfo = s.finfo ∧ t.ser = s.ser ∧ t.window = s.window ∧ t.p = s.p ∧
    t.inLen = s.inLen ∧ t.q = s.q ∧ t.cksum = s.cksum := by
  simp [State.heldInFault]

theorem writeReg_heldInFault (s : State) (off : Nat) (v : Word) :
    (s.writeReg off v).heldInFault = s.heldInFault := by
  unfold State.writeReg
  split <;> rfl

/-- In `FAULT` a write that is no RESET is answered or goes to an operand register. -/
theorem busWrite_heldInFault {off v : Word} {s t : State} (hp : s.phase = .fault) (hv : off = 0 → v ≠ 0)
    (h : busWrite off v s = .next t) : t.heldInFault = s.heldInFault := by
  unfold busWrite at h
  split at h
  · next hoff =>
    rw [exec_decodeCmd_of_fault hp (hv hoff)] at h
    exact Host.Outcome.next.inj h ▸ rfl
  · exact Host.Outcome.next.inj h ▸ writeReg_heldInFault _ _ v

theorem perform_heldInFault {a : HostAction} {s t : State} (hp : s.phase = .fault) (ha : a.resets = false)
    (h : perform a s = .next t) : t.heldInFault = s.heldInFault := by
  rcases perform_next h with
    ⟨off, bytes, v, rfl, hal, hw⟩ | ⟨off, bytes, rfl, -, rfl⟩ | ⟨x, b, rfl, rfl⟩ | ⟨rfl, -⟩
  · exact busWrite_heldInFault hp (by simpa [HostAction.resets, hal] using ha) hw
  · rfl
  · rfl
  · exact nomatch ha

/-- The two resets: power-on and the RESET word written to `CMD` (70_reset_and_hazards.md R250). -/
theorem resets_iff (a : HostAction) : a.resets = true ↔ a = .powerOn ∨ a = .write 0 4 0 := by
  cases a with
  | write off bytes v =>
    simp only [HostAction.resets, Bool.and_eq_true, decide_eq_true_eq, alignedWord_iff]
    constructor
    · rintro ⟨⟨⟨rfl, -⟩, rfl⟩, rfl⟩
      exact .inr rfl
    · rintro (h | h)
      · cases h
      · cases h
        decide
  | read off bytes => simp [HostAction.resets]
  | ibufWrite x b => simp [HostAction.resets]
  | powerOn => simp [HostAction.resets]

theorem perform_of_resets {a : HostAction} {s t : State} (ha : a.resets = true) (h : perform a s = .next t) :
    t = powerOnReset s ∨ t = respondOk 0 (commandReset s) := by
  rcases (resets_iff a).1 ha with rfl | rfl
  · exact .inl (Host.Outcome.next.inj h).symm
  · exact .inr (Host.Outcome.next.inj h).symm

/-- Settles O58: `perform_heldInFault` for every other action, `perform_of_resets` for the two resets. -/
theorem onlyResetLeavesFault : Obligations.OnlyResetLeavesFault := by
  unfold Obligations.OnlyResetLeavesFault
  intro s t a rest hp hscript h
  rw [step_of_not_emitting (by simp [hp]), performNext_cons hscript] at h
  constructor
  · intro ha
    have hheld : t.heldInFault = s.heldInFault := perform_heldInFault (s := { s with script := rest }) hp ha h
    rwa [heldInFault_eq_iff, hp] at hheld
  · intro ha
    rcases perform_of_resets ha h with rfl | rfl <;> exact ⟨rfl, rfl, rfl⟩

/-! ### An internal fault (60_exceptions.md R221 (b)) -/

theorem closeBlock_trap_eq_limitDiverge (final : Bool) (s : State) :
    Ends (fun code _ => code = .limitDiverge) (fun _ => True) (closeBlock final s) :=
  closeBlock_ends rfl fun _ _ _ _ => trivial

theorem trap_eq_limitDiverge_kept : KeptInStep (fun code _ => code = .limitDiverge) fun _ => True where
  fill _ _ _ := fill_ends fun _ _ => trivial
  tally _ _ _ := tally_ends (fun _ => closeBlock_trap_eq_limitDiverge false _) fun _ => trivial
  close final s _ := closeBlock_trap_eq_limitDiverge final s
  progress _ _ := trivial

/-- The one internal fault a STEP takes is that of the sizing (41_huffman_builder.md R151). -/
theorem runStep_trap_code {fl : BitVec 2} {s u : State} {c : FCode} {v : Word}
    (h : runStep fl s = .error (.trap c v u)) : c = .limitDiverge := by
  by_cases hp : s.phase = .done
  · rw [runStep, if_pos hp] at h
    cases h
  · have hend := trap_eq_limitDiverge_kept.runStep_ends (Q := fun _ => True) (fl := fl) (s := s) trivial hp
      (fun _ _ => trivial) (fun _ _ _ _ _ => trivial) fun _ _ _ => trivial
    rwa [h] at hend

/-- Settles O17: the next state is `raiseInternalFault` of the state at the fault. -/
theorem internalFaultKeepsOutput : Obligations.InternalFaultKeepsOutput := by
  unfold Obligations.InternalFaultKeepsOutput
  intro fl s u c v hp h
  have hexec : exec (.step fl) s = .next (raiseInternalFault c v u) := by
    rw [exec_step hp, State.beginStep, h, finish_trap]
  exact ⟨_, hexec, rfl, rfl, rfl, rfl, rfl, rfl, rfl, unspecifiedState_totalIn u, .inl (runStep_trap_code h)⟩

end Sys2Proof.Machine

/-! PROOFS of the family other: an instruction placed by `withFetchWord` is what the next step runs (log 4). -/

namespace Sys2Proof.Machine

/-- A table word is read in the format its width and value choose. -/
theorem decodeTableWord_eq_some_iff {nbits w : Nat} {i : Instr} :
    decodeTableWord nbits w = some i ↔
      decode (tableFormat nbits (tableBits nbits w)) (.ofNat 32 (tableBits nbits w)) = .ok i := by
  unfold decodeTableWord
  split <;> simp [*]

theorem placeWord_cmdw {s : State} (hp : s.phase ≠ .emitting) (w : Word) :
    s.placeWord .cmdw w = { s with script := .write 0 4 w :: s.script } := by
  simp [State.placeWord, State.emitting, hp]

theorem placeWord_of_ne_cmdw {fmt : Format} (hf : fmt ≠ .cmdw) (w : Word) (s : State) :
    s.placeWord fmt w = { s.enterEmission with emission := (fmt, w) :: s.emission } := by
  cases fmt with
  | cmdw => exact absurd rfl hf
  | _ => rfl

section
variable {s : State} {fmt : Format} {w : Word} {i : Instr}

/-- Outside an emission a placed command is the host's next action. -/
theorem step_placeWord_cmdw (hp : s.phase ≠ .emitting) (hd : decode .cmdw w = .ok i) :
    step (s.placeWord .cmdw w) = exec i s := by
  rw [placeWord_cmdw hp]
  obtain ⟨hcommand, -⟩ := (stepRunsTheNextAction { s with script := .write 0 4 w :: s.script }).1 hp
  exact hcommand w i s.script rfl hd

/-- A placed output row is the next element of the emission, which the core enters. -/
theorem step_placeWord_of_ne_cmdw (hf : fmt ≠ .cmdw) (hd : decode fmt w = .ok i) :
    step (s.placeWord fmt w) = exec i { s.enterEmission with emission := s.emission } := by
  rw [placeWord_of_ne_cmdw hf]
  obtain ⟨helement, -⟩ := (stepRunsTheNextAction { s.enterEmission with emission := (fmt, w) :: s.emission }).2
    (enterEmission_phase s)
  exact helement fmt w i s.emission rfl hf hd

end

/-- Settles O52: the format a table word is read in is its instruction's own (`encodeDecodeRoundTrip`), so a command is
placed as the host's next action and an output row as the next element. -/
theorem placedWordRunsNext : Obligations.PlacedWordRunsNext := by
  unfold Obligations.PlacedWordRunsNext
  intro s nbits w i h
  have hd := decodeTableWord_eq_some_iff.1 h
  obtain ⟨-, hencode⟩ := encodeDecodeRoundTrip _ _ _ hd
  have hfmt : (encode i).1 = tableFormat nbits (tableBits nbits w) := congrArg Prod.fst hencode
  rw [State.withFetchWord, ← hfmt]
  rw [← hfmt] at hd
  refine ⟨fun hcmd hp => ?_, fun hrow => step_placeWord_of_ne_cmdw hrow hd, enterEmission_phase s⟩
  rw [hcmd] at hd ⊢
  exact step_placeWord_cmdw hp hd

end Sys2Proof.Machine
